-- ==== Sys2Proof/Word.lean ====
section
/-! DEFINITION. The word types of the block: bytes, the 16-bit header word, the status snapshot, the
classification key and the FIFO strobe word. -/

namespace Sys2Proof

/-- Data width `W` = 8 bits ("slots of byte", 00_scope R7); also the counter width `CW` (10_state R23). -/
abbrev Byte := BitVec 8

/-- The header word `hdr` = {frame_id, frame_size} (30_encoding R91). -/
abbrev Hdr := BitVec 16

/-- The status snapshot `snap_i` = {S, DA, RW, BF, NAK} (10_state R34). -/
abbrev Snap := BitVec 5

/-- The classification key {addr_consumed, S, DA, RW, BF, NAK} (30_encoding R97). -/
abbrev Key := BitVec 6

/-- The FIFO strobe word {put_en, get_en} (30_encoding R103). -/
abbrev PortWord := BitVec 2

end Sys2Proof
end

