-- ==== Sys2Proof/Config.lean ====
section
/-! DEFINITION. What an implementation fixes (00_scope R7) and the values the spec leaves free
(93_implementation_defined.md). -/

namespace Sys2Proof

/-- The parameters of 00_scope R7 that a rule reads. A machine carries its own copy in State; no step
changes it, so a statement about every state is a statement about every choice (log entry 4). -/
structure Config.Params where
  /-- `N`, ring capacity in bytes; the rules hold for every `N >= 1` (40_fifo R134). -/
  n : Nat
  /-- `CTRL_BLINK_CONFLATE` (43_decoder R199). -/
  blinkConflate : Bool
  /-- `ADDR_EVENT_READS_DATA` (42_receive R171, R172). -/
  addrEventReadsData : Bool
deriving DecidableEq, Repr

/-- The parameters' values in 00_scope R7: `N` = 64, both switches 0. -/
def Config.defaults : Config.Params :=
  { n := 64, blinkConflate := false, addrEventReadsData := false }

/-- `BUS_ADDR`: open, and read by no rule of the block (20_memory R62; log entry 10); the peripheral's duty
of 60_exceptions R258 names it. -/
opaque Config.busAddr : BitVec 7

/-- What a ring slot holds at power-on: any value (93 U5, 10_state R40; log entry 5). -/
opaque Config.powerOnByte : Nat → Byte

/-- `get_data` after an Err(Empty): any value, a new one each time (93 U11, 30_encoding R102; log entry 6). -/
opaque Config.emptyGetData : Nat → Byte

end Sys2Proof
end

