-- ==== Sys2Proof/Machine/State.lean ====
section
/-! DEFINITION. The machine's state as plain data: every register of 10_state, the ports of R33, the
environment's inputs, and the state after reset (10_state R40). -/

namespace Sys2Proof.Machine

/-- `fill` (10_state R20; codes 30_encoding R99). -/
inductive Fill where
  | empty
  | partial_
  | full
deriving DecidableEq, Repr

/-- `bts` (10_state R26; codes 30_encoding R99). -/
inductive Bts where
  | awaitingAddress
  | inAddressPhase
  | inDataPhase
deriving DecidableEq, Repr

/-- `dstate` (10_state R30; codes 30_encoding R99). -/
inductive DState where
  | idle
  | getId
  | getSize
  | dispatch
  | getPayload
  | call
  | waitDisp
  | report
  | waitDiag
  | done
deriving DecidableEq, Repr

/-- `dec_status` (10_state R31; codes 30_encoding R101). -/
inductive DecStatus where
  | ok
  | bufferEmpty
  | malformedFrame
deriving DecidableEq, Repr

/-- The codes of 30_encoding R101, as `diag_code_o` carries them and as `raise` takes them. -/
inductive ErrorCode where
  | ok
  | bufferEmpty
  | malformedFrame
  | bufferFull
deriving DecidableEq, Repr

/-- `disp_op_o` (30_encoding R100). The codes 5 and 7 are never taken and have no constructor (43_decoder R208,
93_implementation_defined U13). -/
inductive DispOp where
  | none
  | clear
  | home
  | setCursor
  | putChar
  | setControl
deriving DecidableEq, Repr

/-- `class_o` (30_encoding R98). -/
inductive EventClass where
  | idle
  | addressWrite
  | dataWrite
  | addressRead
  | dataRead
deriving DecidableEq, Repr

/-- The one-step output events: the pulses of 10_state R33 and the calls and reports of 00_scope R13. -/
inductive PortEvent where
  /-- `class_valid_o` with `class_o` (41_classifier R150). -/
  | classValid (c : EventClass)
  /-- `clr_ov_o` (41_classifier R151, R152). -/
  | clrOv
  /-- `clr_wcol_o` (41_classifier R154). -/
  | clrWcol
  /-- `rx_rd_o` (42_receive R173). -/
  | rxRd
  /-- `rx_lost_o` (42_receive R173). -/
  | rxLost
  /-- `clk_release_o` (41_classifier R158). -/
  | clkRelease
  /-- A Display Surface call is offered (43_decoder R203). -/
  | disp (op : DispOp) (arg0 arg1 arg2 : Byte)
  /-- An error report is offered (43_decoder R204). -/
  | diag (code : ErrorCode)
  /-- `dec_done_o` with `dec_status_o` (43_decoder R205). -/
  | decDone (status : DecStatus)
deriving DecidableEq, Repr

/-- The input ports of 10_state R33 as they stand at one step, and the FIFO strobes a stimulus line of
30_encoding R104 drives directly (log entries 2 and 11). -/
structure Inputs where
  rst : Bool
  evt : Bool
  snap : Snap
  rxData : Byte
  wcol : Bool
  dispDone : Bool
  diagDone : Bool
  /-- The MODEL's own: the bus address of the transaction that the event of `evt` belongs to. No port carries it
  and no step reads it; the peripheral's duty is about it (60_exceptions R258; log entry 15). -/
  evtAddr : BitVec 7
  /-- {put_en, get_en} when a stimulus calls the FIFO itself; none otherwise (log entry 11). -/
  fifo : Option PortWord
  putData : Byte
deriving DecidableEq, Repr

/-- Every input low and nothing presented (log entry 2). -/
def Inputs.quiet : Inputs :=
  { rst := false, evt := false, snap := 0, rxData := 0, wcol := false, dispDone := false,
    diagDone := false, evtAddr := 0, fifo := none, putData := 0 }

/-- The ring RAM: the slots written since power-on, addresses strictly rising (20_memory R60; Ops has
`Memory.wf` and what an unlisted slot reads as). -/
abbrev Memory := List Host.Cell

structure State where
  /-- The parameters of 00_scope R7; no step changes them. -/
  params : Config.Params
  /-- `ring[0..N-1]` (10_state R20, 20_memory R60). -/
  ring : Memory
  /-- `rd_idx` (10_state R20). -/
  rdIdx : Nat
  /-- `wr_idx` (10_state R20). -/
  wrIdx : Nat
  /-- `fill` (10_state R20, R39). -/
  fill : Fill
  /-- `put_err` of the last `put` (30_encoding R102). -/
  putErr : Bool
  /-- `get_err` of the last `get` (30_encoding R102). -/
  getErr : Bool
  /-- `get_data` of the last `get` (30_encoding R102). -/
  getData : Byte
  /-- `addr_consumed` (10_state R27). -/
  addrConsumed : Bool
  /-- `bts` (10_state R26). -/
  bts : Bts
  /-- `evt_pend` (10_state R25). -/
  evtPend : Bool
  /-- The key a DataRead step sampled, while it waits for `wcol_i` (41_classifier R154; log entry 17). -/
  rxHold : Option Key
  /-- `rx_idx` (10_state R23). -/
  rxIdx : Byte
  /-- `decl_size` (10_state R23). -/
  declSize : Byte
  /-- `completed_frame_count` (10_state R23). -/
  completedFrameCount : Byte
  /-- `dstate` (10_state R30). -/
  dstate : DState
  /-- `frame_id` (10_state R28). -/
  frameId : Byte
  /-- `frame_size` (10_state R28). -/
  frameSize : Byte
  /-- `arg0` (10_state R28). -/
  arg0 : Byte
  /-- `arg1` (10_state R28). -/
  arg1 : Byte
  /-- `arg2` (10_state R28). -/
  arg2 : Byte
  /-- `pay_need` (10_state R29). -/
  payNeed : BitVec 2
  /-- `pay_cnt` (10_state R29). -/
  payCnt : BitVec 2
  /-- `remaining` (10_state R29). -/
  remaining : Byte
  /-- `dec_status` (10_state R31). -/
  decStatus : DecStatus
  /-- `rx_mask` (10_state R32). -/
  rxMask : Bool
  /-- `disp_valid_o` (10_state R33). -/
  dispValid : Bool
  /-- `disp_op_o` (10_state R33). -/
  dispOp : DispOp
  /-- `disp_arg0_o` (10_state R33). -/
  dispArg0 : Byte
  /-- `disp_arg1_o` (10_state R33). -/
  dispArg1 : Byte
  /-- `disp_arg2_o` (10_state R33). -/
  dispArg2 : Byte
  /-- `diag_valid_o` (10_state R33). -/
  diagValid : Bool
  /-- `diag_code_o` (10_state R33). -/
  diagCode : ErrorCode
  /-- The output events of the last step, in the order of 42_receive R176 (log entry 19). -/
  emitted : List PortEvent
  /-- The input ports at this step (10_state R33; log entry 2). -/
  pins : Inputs
  /-- The MODEL's own: the input ports at the steps to come (log entry 2). -/
  upcoming : List Inputs
  /-- The MODEL's own: free values drawn for `get_data` so far (log entry 6). -/
  freeCount : Nat
deriving DecidableEq, Repr

/-- How a step can stop. No error of the block is fatal (60_exceptions R244), so there is one fault. -/
inductive Fault where
  /-- Raised by the ring read and write of `put` and `get` for a slot index of `N` or more: 20_memory
  R62 gives the ring slots `0 .. N-1` only. No run from reset has such an index (40_fifo R134).
  Safe: the model stops where the spec gives no slot. -/
  | noSuchSlot
deriving DecidableEq, Repr

/-- Why a step has no meaning. -/
inductive Refusal where
  /-- Raised by `exec`'s arm of an instruction that has no meaning yet. Safe. -/
  | notModelled (mnemonic : String)
  /-- Raised by a CALL step under a header that makes no Display Surface call (Unknown, Malformed):
  30_encoding R100 has no call for it and no run from reset gets there (43_decoder R193; log entry 14). Safe. -/
  | noDisplayCall
  /-- Raised by a GET_PAYLOAD step with `pay_cnt` = 3: there are three arg registers (10_state R28) and no
  run from reset gets there (log entry 14). Safe. -/
  | noArgRegister
deriving DecidableEq, Repr

/-- The three outcomes of an operation of this machine. -/
abbrev Result := Host.Outcome State Fault Refusal

/-- The machine right after reset: 10_state R40, with 00_scope R7's parameters. The ring lists nothing
(log entry 5); the port registers R40 does not name are 0 (log entries 7, 8, 9); the environment
is quiet (log entry 2). -/
def State.reset : State :=
  { params := Config.defaults
    ring := []
    rdIdx := 0
    wrIdx := 0
    fill := .empty
    putErr := false
    getErr := false
    getData := 0
    addrConsumed := false
    bts := .awaitingAddress
    evtPend := false
    rxHold := none
    rxIdx := 0
    declSize := 0
    completedFrameCount := 0
    dstate := .idle
    frameId := 0
    frameSize := 0
    arg0 := 0
    arg1 := 0
    arg2 := 0
    payNeed := 0
    payCnt := 0
    remaining := 0
    decStatus := .ok
    rxMask := false
    dispValid := false
    dispOp := .none
    dispArg0 := 0
    dispArg1 := 0
    dispArg2 := 0
    diagValid := false
    diagCode := .ok
    emitted := []
    pins := Inputs.quiet
    upcoming := []
    freeCount := 0 }

end Sys2Proof.Machine
end

