-- ==== Sys2Proof/Machine/Flags.lean ====
section
/-! DEFINITION. How the flags of 10_state R39 are computed: `fill`, `addr_consumed`, `bts`, the
frame-completion test, and the enable of a receive step. -/

namespace Sys2Proof.Machine

/-- `fill` after an accepted `put` whose advanced write index is `w` (40_fifo R130). -/
def fillAfterPut (w rd : Nat) : Fill := if w = rd then .full else .partial_

/-- `fill` after an accepted `get` whose advanced read index is `r` (40_fifo R131). -/
def fillAfterGet (r wr : Nat) : Fill := if r = wr then .empty else .partial_

/-- `addr_consumed` after an event of class `c` (41_classifier R157). -/
def consumedAfter (c : EventClass) (old : Bool) : Bool :=
  match c with
  | .addressWrite => true
  | .addressRead => false
  | .dataWrite => old
  | .dataRead => old
  | .idle => old

/-- `bts` after an event of class `c` (41_classifier R157). -/
def btsAfter (c : EventClass) (old : Bts) : Bts :=
  match c with
  | .addressWrite => .inAddressPhase
  | .addressRead => .inAddressPhase
  | .dataWrite => .inDataPhase
  | .dataRead => .inDataPhase
  | .idle => old

/-- The completion test of a data-write event: `rx_idx == decl_size_now and rx_idx != 0` (42_receive R173). -/
def frameCompletes (rxIdx declNow : Byte) : Bool := rxIdx == declNow && rxIdx != 0

/-- When a receive step is enabled: `evt_pend == 1 and rx_mask == 0` (42_receive R170). -/
def receiveEnabled (s : State) : Bool := s.evtPend && !s.rxMask

/-- `evt_pend` at the end of a step in which `evt_i` is `evt`: the set wins over the clear
(60_exceptions R249, 10_state R25). -/
def evtPendAfter (evt old : Bool) : Bool := evt || old

end Sys2Proof.Machine
end

