-- ==== Sys2Proof/Syntax.lean ====
section
/-! DEFINITION. The operations of the block: one constructor per row of spec/opcode_table.json
(00_scope R6, 30_encoding R103). Operands are the bits a row leaves open; payload bytes are not among
them, since the decoder dequeues them while the command runs (43_decoder R202). -/

namespace Sys2Proof

/-- The operations that stand in for instructions (00_scope R6). -/
inductive Instr where
  /-- `hdr == 0x0102` (43_decoder R194). -/
  | clearDisplay
  /-- `hdr == 0x0202` (43_decoder R195). -/
  | returnHome
  /-- `hdr == 0x0304` (43_decoder R196). -/
  | setCursor
  /-- `hdr == 0x0403` (43_decoder R197). -/
  | putChar
  /-- `hdr == 0x0605` (43_decoder R199). -/
  | controlDisplay
  /-- `frame_id == 5`, `frame_size` 0 or 1: Malformed (43_decoder R201). -/
  | putStringShort (size : Byte)
  /-- `frame_id == 5`, `frame_size >= 2` (43_decoder R198). -/
  | putString (size : Byte)
  /-- `frame_id == 1` with another size: Malformed (43_decoder R201). -/
  | clearDisplayWrongSize (size : Byte)
  /-- `frame_id == 2` with another size: Malformed (43_decoder R201). -/
  | returnHomeWrongSize (size : Byte)
  /-- `frame_id == 3` with another size: Malformed (43_decoder R201). -/
  | setCursorWrongSize (size : Byte)
  /-- `frame_id == 4` with another size: Malformed (43_decoder R201). -/
  | putCharWrongSize (size : Byte)
  /-- `frame_id == 6` with another size: Malformed (43_decoder R201). -/
  | controlDisplayWrongSize (size : Byte)
  /-- `frame_id == 0` or `frame_id >= 7` (43_decoder R200). -/
  | unknown (id size : Byte)
  /-- S = 1, DA = 0, RW = 0 (41_classifier R151). -/
  | addressWrite (consumed bf nak : Bool)
  /-- addr_consumed = 1, S = 1, DA = 1, RW = 0 (41_classifier R152). -/
  | dataWrite (bf nak : Bool)
  /-- S = 1, DA = 0, RW = 1 (41_classifier R153). -/
  | addressRead (consumed bf nak : Bool)
  /-- S = 1, DA = 1, RW = 1 (41_classifier R154). -/
  | dataRead (consumed bf nak : Bool)
  /-- Every other key (41_classifier R155). -/
  | idle (key : Key)
  /-- Port strobe `put_en`; `getEn` is the strobe `get_en` presented in the same step (40_fifo R130, R133). -/
  | put (getEn : Bool)
  /-- Port strobe `get_en` alone (40_fifo R131). -/
  | get
  /-- The level output `fill_o` (40_fifo R132). -/
  | state
deriving DecidableEq, Repr

end Sys2Proof
end

