-- ==== Sys2Proof/WellFormed.lean ====
section
/-! DEFINITION. When an instruction is one the encoding tables have (30_encoding R92, R95, R97). -/

namespace Sys2Proof

/-- The key is none of the four patterns of 30_encoding R97: S = 0, or S = 1, DA = 1, RW = 0 with
addr_consumed = 0. -/
def Instr.idleKey (key : Key) : Bool :=
  !(key.getLsbD 4) || (key.getLsbD 3 && !(key.getLsbD 2) && !(key.getLsbD 5))

/-- Each row's operands stay inside the row: a size that an exact row takes, an identifier that a
command takes or a key that another class takes is refused (30_encoding R95, R97). -/
def Instr.wf : Instr → Bool
  | .clearDisplay => true
  | .returnHome => true
  | .setCursor => true
  | .putChar => true
  | .controlDisplay => true
  | .putStringShort size => decide (size.toNat < 2)
  | .putString size => decide (2 ≤ size.toNat)
  | .clearDisplayWrongSize size => size != 2
  | .returnHomeWrongSize size => size != 2
  | .setCursorWrongSize size => size != 4
  | .putCharWrongSize size => size != 3
  | .controlDisplayWrongSize size => size != 5
  | .unknown id _ => id == 0 || decide (7 ≤ id.toNat)
  | .addressWrite _ _ _ => true
  | .dataWrite _ _ => true
  | .addressRead _ _ _ => true
  | .dataRead _ _ _ => true
  | .idle key => Instr.idleKey key
  | .put _ => true
  | .get => true
  | .state => true

end Sys2Proof
end

