-- ==== Sys2Proof/Decode.lean ====
section
/-! DEFINITION. The decoder and the encoder of the three word formats of opcode_table.json
(30_encoding R90 to R97, R103). The machine decodes a header word, a key or a strobe word; the
byte-level `decode` wraps the three and rejects by name. -/

namespace Sys2Proof

/-- The three groups of rows of 30_encoding R103. -/
inductive Format where
  | frameHdr
  | snapshotKey
  | fifoPort
deriving DecidableEq, Repr

/-- Why bytes are no instruction of a format. -/
inductive DecodeError where
  /-- Fewer bytes than the format's word has. -/
  | truncated
  /-- A key is 6 bits wide: the byte has a higher bit set (30_encoding R97). -/
  | keyTooWide
  /-- The strobe word is 2 bits wide: the byte has a higher bit set (30_encoding R103). -/
  | portTooWide
deriving DecidableEq, Repr

/-! ### Bit fields -/

/-- `hdr[15:8]`, the first byte on the wire (30_encoding R91). -/
def hdrId (h : Hdr) : Byte := h.extractLsb' 8 8

/-- `hdr[7:0]`, the second byte on the wire (30_encoding R91). -/
def hdrSize (h : Hdr) : Byte := h.extractLsb' 0 8

/-- `hdr` = {frame_id, frame_size} (30_encoding R91). -/
def mkHdr (id size : Byte) : Hdr := id ++ size

/-- The key {addr_consumed, snap_i} (30_encoding R97). -/
def mkKey (consumed : Bool) (snap : Snap) : Key := BitVec.ofBool consumed ++ snap

/-- The key written out bit by bit, `key[5]` first (30_encoding R97). -/
def keyBits (consumed s da rw bf nak : Bool) : Key :=
  BitVec.ofBool consumed ++ BitVec.ofBool s ++ BitVec.ofBool da ++ BitVec.ofBool rw ++
    BitVec.ofBool bf ++ BitVec.ofBool nak

/-- `key[5]`, addr_consumed. -/
def keyConsumed (k : Key) : Bool := k.getLsbD 5

/-- `key[1]`, BF. -/
def keyBf (k : Key) : Bool := k.getLsbD 1

/-- `key[0]`, NAK. -/
def keyNak (k : Key) : Bool := k.getLsbD 0

/-- A row is hit when `(w & mask) == match` (30_encoding R103). -/
def rowHit {w : Nat} (mask value word : BitVec w) : Bool := (word &&& mask) == value

/-! ### Decoding -/

/-- The FRAME_HDR rows in ascending priority, first match taken (30_encoding R103). Total: every header
has an outcome (30_encoding R95). -/
def decodeHeader (h : Hdr) : Instr :=
  if rowHit 0xFFFF#16 0x0102#16 h then .clearDisplay
  else if rowHit 0xFFFF#16 0x0202#16 h then .returnHome
  else if rowHit 0xFFFF#16 0x0304#16 h then .setCursor
  else if rowHit 0xFFFF#16 0x0403#16 h then .putChar
  else if rowHit 0xFFFF#16 0x0605#16 h then .controlDisplay
  else if rowHit 0xFFFE#16 0x0500#16 h then .putStringShort (hdrSize h)
  else if rowHit 0xFF00#16 0x0500#16 h then .putString (hdrSize h)
  else if rowHit 0xFF00#16 0x0100#16 h then .clearDisplayWrongSize (hdrSize h)
  else if rowHit 0xFF00#16 0x0200#16 h then .returnHomeWrongSize (hdrSize h)
  else if rowHit 0xFF00#16 0x0300#16 h then .setCursorWrongSize (hdrSize h)
  else if rowHit 0xFF00#16 0x0400#16 h then .putCharWrongSize (hdrSize h)
  else if rowHit 0xFF00#16 0x0600#16 h then .controlDisplayWrongSize (hdrSize h)
  else .unknown (hdrId h) (hdrSize h)

/-- The SNAPSHOT_KEY rows in priority order, Idle last (30_encoding R97, 41_classifier R156). -/
def decodeKey (k : Key) : Instr :=
  if rowHit 0b011100#6 0b010000#6 k then .addressWrite (keyConsumed k) (keyBf k) (keyNak k)
  else if rowHit 0b111100#6 0b111000#6 k then .dataWrite (keyBf k) (keyNak k)
  else if rowHit 0b011100#6 0b010100#6 k then .addressRead (keyConsumed k) (keyBf k) (keyNak k)
  else if rowHit 0b011100#6 0b011100#6 k then .dataRead (keyConsumed k) (keyBf k) (keyNak k)
  else .idle k

/-- The FIFO_PORT rows: `put_en` selects put, with `get_en` as its free bit; `get_en` alone selects get;
no strobe leaves the level output (30_encoding R103, 40_fifo R133). -/
def decodePort (p : PortWord) : Instr :=
  if rowHit 0b10#2 0b10#2 p then .put (p.getLsbD 0)
  else if rowHit 0b01#2 0b01#2 p then .get
  else .state

/-- One instruction from the front of a byte list, with the bytes left over. A header is two bytes in
wire order (20_memory R63); a key or a strobe word stands in the low bits of one byte. -/
def decode (f : Format) (bytes : List Byte) : Except DecodeError (Instr × List Byte) :=
  match f, bytes with
  | .frameHdr, id :: size :: rest => .ok (decodeHeader (mkHdr id size), rest)
  | .frameHdr, _ => .error .truncated
  | .snapshotKey, b :: rest =>
    if b.extractLsb' 6 2 == 0#2 then .ok (decodeKey (b.extractLsb' 0 6), rest) else .error .keyTooWide
  | .snapshotKey, [] => .error .truncated
  | .fifoPort, b :: rest =>
    if b.extractLsb' 2 6 == 0#6 then .ok (decodePort (b.extractLsb' 0 2), rest) else .error .portTooWide
  | .fifoPort, [] => .error .truncated

/-! ### Encoding -/

/-- Which of the three groups a row stands in (30_encoding R103). -/
def Instr.format : Instr → Format
  | .clearDisplay => .frameHdr
  | .returnHome => .frameHdr
  | .setCursor => .frameHdr
  | .putChar => .frameHdr
  | .controlDisplay => .frameHdr
  | .putStringShort _ => .frameHdr
  | .putString _ => .frameHdr
  | .clearDisplayWrongSize _ => .frameHdr
  | .returnHomeWrongSize _ => .frameHdr
  | .setCursorWrongSize _ => .frameHdr
  | .putCharWrongSize _ => .frameHdr
  | .controlDisplayWrongSize _ => .frameHdr
  | .unknown _ _ => .frameHdr
  | .addressWrite _ _ _ => .snapshotKey
  | .dataWrite _ _ => .snapshotKey
  | .addressRead _ _ _ => .snapshotKey
  | .dataRead _ _ _ => .snapshotKey
  | .idle _ => .snapshotKey
  | .put _ => .fifoPort
  | .get => .fifoPort
  | .state => .fifoPort

/-- A key as one byte, the two high bits 0. -/
def keyByte (k : Key) : Byte := k.zeroExtend 8

/-- The bytes of an instruction, from the tables of 30_encoding R92, R95, R97, R103. -/
def encode : Instr → List Byte
  | .clearDisplay => [0x01, 0x02]
  | .returnHome => [0x02, 0x02]
  | .setCursor => [0x03, 0x04]
  | .putChar => [0x04, 0x03]
  | .controlDisplay => [0x06, 0x05]
  | .putStringShort size => [0x05, size]
  | .putString size => [0x05, size]
  | .clearDisplayWrongSize size => [0x01, size]
  | .returnHomeWrongSize size => [0x02, size]
  | .setCursorWrongSize size => [0x03, size]
  | .putCharWrongSize size => [0x04, size]
  | .controlDisplayWrongSize size => [0x06, size]
  | .unknown id size => [id, size]
  | .addressWrite consumed bf nak => [keyByte (keyBits consumed true false false bf nak)]
  | .dataWrite bf nak => [keyByte (keyBits true true true false bf nak)]
  | .addressRead consumed bf nak => [keyByte (keyBits consumed true false true bf nak)]
  | .dataRead consumed bf nak => [keyByte (keyBits consumed true true true bf nak)]
  | .idle key => [keyByte key]
  | .put getEn => [BitVec.zeroExtend 8 (0b1#1 ++ BitVec.ofBool getEn)]
  | .get => [0x01]
  | .state => [0x00]

/-! ### The host's numbering -/

/-- The format and bytes of a table word. Two bytes are a header, `hdr[15:8]` first on the wire
(30_encoding R91); one byte below 4 is a strobe word and any other one byte a key (log entry 16). -/
def tableBytes (nbits w : Nat) : Option (Format × List Byte) :=
  if nbits ≤ 8 then
    some (if w < 4 then .fifoPort else .snapshotKey, [BitVec.ofNat 8 w])
  else if nbits ≤ 16 then
    some (.frameHdr, [BitVec.ofNat 8 (w / 256), BitVec.ofNat 8 w])
  else none

/-- The instruction the decoder reads from a table word (log entry 16). -/
def decodeTableWord (nbits w : Nat) : Option Instr :=
  match tableBytes nbits w with
  | none => none
  | some (f, bytes) =>
    match decode f bytes with
    | .ok (i, _) => some i
    | .error _ => none

end Sys2Proof
end

