-- ==== Sys2Proof/Machine/Operands.lean ====
section
/-! DEFINITION. Where an operation's operands come from: the header registers, the sampled key, the
received byte, the arg registers (30_encoding R94, 10_state R28, R34). -/

namespace Sys2Proof.Machine

/-- The header of the cycle in progress, {frame_id, frame_size} (30_encoding R91). -/
def headerOf (s : State) : Hdr := mkHdr s.frameId s.frameSize

/-- The key of the event in handling: the one sampled when the step began, if it is waiting
(41_classifier R154), else `addr_consumed` and `snap_i` now (42_receive R170, 10_state R34). -/
def eventKey (s : State) : Key :=
  match s.rxHold with
  | some k => k
  | none => mkKey s.addrConsumed s.pins.snap

/-- `decl_size <- (value - 1) mod 256` (30_encoding R94, 42_receive R173). -/
def declSizeOf (size : Byte) : Byte := size - 1

/-- `decl_size_now`: the value just stored if `rx_idx == 1`, else the register (42_receive R173). -/
def declSizeNow (s : State) (b : Byte) : Byte := if s.rxIdx = 1 then declSizeOf b else s.declSize

/-- PutString's payload length, `frame_size - 2` (30_encoding R94, 43_decoder R198). -/
def stringLength (size : Byte) : Byte := size - 2

/-- `disp_arg2_o` of set_control: the blink byte, or the cursor byte with `CTRL_BLINK_CONFLATE`
(43_decoder R199). -/
def blinkArg (p : Config.Params) (cursor blink : Byte) : Byte :=
  if p.blinkConflate then cursor else blink

/-- `arg[k] <- b` (43_decoder R202); there are three arg registers (log entry 14). -/
def setArg (k : BitVec 2) (b : Byte) (s : State) : Result :=
  if k = 0 then .next { s with arg0 := b }
  else if k = 1 then .next { s with arg1 := b }
  else if k = 2 then .next { s with arg2 := b }
  else .refused .noArgRegister

end Sys2Proof.Machine
end

