-- ==== Sys2Proof/Machine/Ops.lean ====
section
/-! DEFINITION. The named operations over the ring and the registers: the RAM, `put` and `get`, the
output events, the mask window, the calls and reports, raising an error and returning from one, and the
beginning and end of a receive step. -/

namespace Sys2Proof.Machine

/-- Run `f` on the next state, if there is one. -/
def andThen (r : Result) (f : State → Result) : Result :=
  match r with
  | .next s => f s
  | .fault e => .fault e
  | .refused e => .refused e

/-! ### The ring RAM (20_memory R60, R65) -/

/-- The canonical form: addresses strictly rising. An unlisted slot holds no known value, so no entry
can equal it (log entry 5). -/
def Memory.wf : Memory → Bool
  | [] => true
  | [_] => true
  | a :: b :: m => decide (a.1 < b.1) && Memory.wf (b :: m)

/-- The byte a slot was last written with, if it was written since power-on. -/
def Memory.lookup : Memory → Nat → Option Byte
  | [], _ => none
  | (x, c) :: m, a => if a = x then some c else Memory.lookup m a

/-- The byte in slot `a`; a slot nothing has written holds any value (93 U5; log entry 5). -/
def Memory.read (m : Memory) (a : Nat) : Byte := (Memory.lookup m a).getD (Config.powerOnByte a)

/-- `ring[a] <- b`, keeping the canonical form. -/
def Memory.write : Memory → Nat → Byte → Memory
  | [], a, b => [(a, b)]
  | (x, c) :: m, a, b =>
    if a < x then (a, b) :: (x, c) :: m
    else if a = x then (a, b) :: m
    else (x, c) :: Memory.write m a b

/-- `idx <- (idx + 1) mod N` (20_memory R64). -/
def nextIdx (p : Config.Params) (i : Nat) : Nat := (i + 1) % p.n

/-- The slot an index names exists when it is below `N` (20_memory R62). -/
def slotExists (p : Config.Params) (i : Nat) : Bool := decide (i < p.n)

/-! ### `put` and `get` (40_fifo R130, R131, R133) -/

/-- `put(b)`: the result is in `put_err` (40_fifo R130, 30_encoding R102). -/
def ringPut (b : Byte) (s : State) : Result :=
  if s.fill = .full then .next { s with putErr := true }
  else if slotExists s.params s.wrIdx then
    .next { s with
      ring := Memory.write s.ring s.wrIdx b
      wrIdx := nextIdx s.params s.wrIdx
      fill := fillAfterPut (nextIdx s.params s.wrIdx) s.rdIdx
      putErr := false }
  else .fault .noSuchSlot

/-- `get()`: the result is in `get_err` and `get_data` (40_fifo R131, 30_encoding R102). After an
Err(Empty) `get_data` is a free value (93 U11; log entry 6). The read index always advances (90_conflicts C1). -/
def ringGet (s : State) : Result :=
  if s.fill = .empty then
    .next { s with
      getErr := true
      getData := Config.emptyGetData s.freeCount
      freeCount := s.freeCount + 1 }
  else if slotExists s.params s.rdIdx then
    .next { s with
      rdIdx := nextIdx s.params s.rdIdx
      fill := fillAfterGet (nextIdx s.params s.rdIdx) s.wrIdx
      getErr := false
      getData := Memory.read s.ring s.rdIdx }
  else .fault .noSuchSlot

/-- `put` and `get` presented in one step, each judged against `fill` before it (40_fifo R133): from
Empty the `get` is refused, from Full the `put` is, and from Partial both take effect together. -/
def ringPutGet (b : Byte) (s : State) : Result :=
  match s.fill with
  | .empty => andThen (ringGet s) (ringPut b)
  | .full => andThen (ringPut b s) ringGet
  | .partial_ =>
    if slotExists s.params s.wrIdx && slotExists s.params s.rdIdx then
      .next { s with
        ring := Memory.write s.ring s.wrIdx b
        wrIdx := nextIdx s.params s.wrIdx
        rdIdx := nextIdx s.params s.rdIdx
        fill := .partial_
        putErr := false
        getErr := false
        getData := Memory.read s.ring s.rdIdx }
    else .fault .noSuchSlot

/-! ### Output events and the mask window -/

/-- `emit e`: one more output event of this step (00_scope R13). -/
def emit (e : PortEvent) (s : State) : State := { s with emitted := s.emitted ++ [e] }

/-- `x[rx_mask] <- b` (10_state R32, 20_memory R71). -/
def setMask (b : Bool) (s : State) : State := { s with rxMask := b }

/-- `x[dstate] <- d` (10_state R30). -/
def goto (d : DState) (s : State) : State := { s with dstate := d }

/-- The cycle's outcome is decided: `x[dec_status] <- st ; x[dstate] <- DONE` (10_state R31). -/
def finishCycle (st : DecStatus) (s : State) : State := { s with decStatus := st, dstate := .done }

/-- The CALL step: a Display Surface call offered inside its mask window (43_decoder R203). -/
def offerCall (op : DispOp) (a0 a1 a2 : Byte) (s : State) : State :=
  goto .waitDisp
    (emit (.disp op a0 a1 a2)
      { setMask true s with dispValid := true, dispOp := op, dispArg0 := a0, dispArg1 := a1, dispArg2 := a2 })

/-- The call has completed: `disp_valid_o = 0 ; x[rx_mask] <- 0` (43_decoder R203); an idle port carries
`disp_op_o` = 0 (30_encoding R100; log entry 8). -/
def closeCall (s : State) : State := { setMask false s with dispValid := false, dispOp := .none }

/-- The REPORT step: an error report offered inside a mask window (43_decoder R204). -/
def offerReport (code : ErrorCode) (s : State) : State :=
  goto .waitDiag (emit (.diag code) { setMask true s with diagValid := true, diagCode := code })

/-- The report has completed: `diag_valid_o = 0 ; x[rx_mask] <- 0` (43_decoder R204). -/
def closeReport (s : State) : State := { setMask false s with diagValid := false }

/-! ### Errors: taking one and returning from one (60_exceptions R240, R250) -/

/-- `raise`: BufferFull is absorbed with an `rx_lost_o` pulse (42_receive R173, 60_exceptions R241);
BufferEmpty sends the cycle to REPORT (43_decoder R204); MalformedFrame ends it with that status
(43_decoder R201). Nothing is saved (60_exceptions R250). -/
def raise (e : ErrorCode) (s : State) : State :=
  match e with
  | .ok => s
  | .bufferFull => emit .rxLost s
  | .bufferEmpty => goto .report s
  | .malformedFrame => finishCycle .malformedFrame s

/-- The DONE step, the end of every decode cycle, error or not (43_decoder R205). -/
def endCycle (s : State) : State :=
  goto .idle
    (emit (.decDone s.decStatus) { s with completedFrameCount := s.completedFrameCount - 1 })

/-! ### A receive step's beginning and end (42_receive R170) -/

/-- The classifier's register effects for class `c` (41_classifier R157). -/
def classify (c : EventClass) (s : State) : State :=
  { s with addrConsumed := consumedAfter c s.addrConsumed, bts := btsAfter c s.bts }

/-- A new transaction: `rx_idx` and `decl_size` to zero (10_state R24, 42_receive R171, R172), with the
optional read of `ADDR_EVENT_READS_DATA`. -/
def startTransaction (s : State) : State :=
  let t := { s with rxIdx := 0, declSize := 0 }
  if s.params.addrEventReadsData then emit .rxRd t else t

/-- The event has been handled: `x[evt_pend] <- 0`, and no step is waiting (42_receive R170, 60_exceptions R251). -/
def endEvent (s : State) : State := { s with evtPend := false, rxHold := none }

/-- The end of a receive step of class 1 to 4: the clock release is its last action (41_classifier R158). -/
def releaseAndEnd (s : State) : State := endEvent (emit .clkRelease s)

/-- The bookkeeping lines of a data-write event with byte `b`, in their order (42_receive R173). -/
def countByte (b : Byte) (s : State) : State :=
  { s with
    declSize := declSizeNow s b
    completedFrameCount :=
      if frameCompletes s.rxIdx (declSizeNow s b) then s.completedFrameCount + 1 else s.completedFrameCount
    rxIdx := s.rxIdx + 1 }

/-- One read of the received byte, `put`, the loss pulse, the bookkeeping (42_receive R173). -/
def receiveByte (s : State) : Result :=
  andThen (ringPut s.pins.rxData (emit .rxRd s)) fun t =>
    .next (countByte s.pins.rxData (if t.putErr then raise .bufferFull t else t))

end Sys2Proof.Machine
end

