-- ==== Sys2Proof/Machine/Events.lean ====
section
/-! DEFINITION. One receive step per class of bus event: the classifier's actions (41_classifier R151 to
R155), the handler's (42_receive R171 to R175), in the order of 42_receive R176. -/

namespace Sys2Proof.Machine

/-- AddressWrite (41_classifier R151, 42_receive R171). BF, NAK and `addr_consumed` are not read. -/
def execAddressWrite (_consumed _bf _nak : Bool) (s : State) : Result :=
  .next (releaseAndEnd
    (startTransaction (classify .addressWrite (emit .clrOv (emit (.classValid .addressWrite) s)))))

/-- DataWrite (41_classifier R152, 42_receive R173). -/
def execDataWrite (_bf _nak : Bool) (s : State) : Result :=
  andThen (receiveByte (classify .dataWrite (emit .clrOv (emit (.classValid .dataWrite) s)))) fun t =>
    .next (releaseAndEnd t)

/-- AddressRead (41_classifier R153, 42_receive R172): no overflow clear. -/
def execAddressRead (_consumed _bf _nak : Bool) (s : State) : Result :=
  .next (releaseAndEnd (startTransaction (classify .addressRead (emit (.classValid .addressRead) s))))

/-- `await wcol_i == 0`: while it is 1 the step stays in handling, with no timeout; then `bts`, and the
clock release (41_classifier R154, 42_receive R174, 60_exceptions R257). -/
def awaitCollision (key : Key) (s : State) : State :=
  if s.pins.wcol then { s with rxHold := some key } else releaseAndEnd (classify .dataRead s)

/-- DataRead (41_classifier R154, 42_receive R174). A step already waiting has pulsed `class_valid_o`
and `clr_wcol_o` and goes on with the wait (log entry 17). -/
def execDataRead (consumed bf nak : Bool) (s : State) : Result :=
  match s.rxHold with
  | some k => .next (awaitCollision k s)
  | none =>
    .next (awaitCollision (keyBits consumed true true true bf nak)
      (emit .clrWcol (emit (.classValid .dataRead) s)))

/-- Idle (41_classifier R155, 42_receive R175): nothing but `evt_pend <- 0`; no pulse, `class_valid_o` included
(92_eei_decisions D11). -/
def execIdle (_key : Key) (s : State) : Result := .next (endEvent s)

end Sys2Proof.Machine
end

