-- ==== Sys2Proof/Machine/Fifo.lean ====
section
/-! DEFINITION. The FIFO port operations as instructions (40_fifo R130 to R133). -/

namespace Sys2Proof.Machine

/-- `put(put_data)`, with `get()` in the same step when `get_en` is up too (40_fifo R130, R133). -/
def execPut (getEn : Bool) (s : State) : Result :=
  if getEn then ringPutGet s.pins.putData s else ringPut s.pins.putData s

/-- `get()` (40_fifo R131). -/
def execGet (s : State) : Result := ringGet s

/-- `state()`: a pure observer; what it returns is the level `fill_o` (40_fifo R132, Ports `fillO`). -/
def execState (s : State) : Result := .next s

end Sys2Proof.Machine
end

