-- ==== Sys2Proof/Machine/Frames.lean ====
section
/-! DEFINITION. The frame commands (43_decoder R193 to R203). A command runs over several decoder steps,
and its meaning is the step it takes in the present `dstate`: GET_PAYLOAD, CALL or WAIT_DISP once it has
been dispatched, and DISPATCH itself otherwise (log entry 18). -/

namespace Sys2Proof.Machine

/-- DISPATCH of a fixed-size command with `need` payload bytes (43_decoder R193). -/
def dispatchFixed (need : BitVec 2) (s : State) : State :=
  { s with payCnt := 0, payNeed := need, dstate := if need = 0 then .call else .getPayload }

/-- DISPATCH of PutString; the empty string is done at once (43_decoder R193, R198). -/
def dispatchString (size : Byte) (s : State) : State :=
  let t := { s with payCnt := 0, payNeed := 1, remaining := stringLength size }
  if size = 2 then finishCycle .ok t else goto .getPayload t

/-- DISPATCH of a known identifier with another command's size (43_decoder R193, R201). -/
def dispatchMalformed (s : State) : State := raise .malformedFrame { s with payCnt := 0 }

/-- DISPATCH of an unknown identifier: a no-op with status Ok (43_decoder R193, R200). -/
def dispatchUnknown (s : State) : State := finishCycle .ok { s with payCnt := 0 }

/-- The byte dequeued by GET_PAYLOAD goes to its arg register, and the call is made when all bytes of it
are in (43_decoder R202). -/
def storePayload (t : State) : Result :=
  andThen (setArg t.payCnt t.getData t) fun u =>
    .next { u with
      payCnt := u.payCnt + 1
      dstate := if u.payCnt + 1 = u.payNeed then .call else .getPayload }

/-- GET_PAYLOAD (43_decoder R202). -/
def getPayloadStep (s : State) : Result :=
  andThen (ringGet s) fun t => if t.getErr then .next (raise .bufferEmpty t) else storePayload t

/-- WAIT_DISP of a command that makes one call (43_decoder R203). -/
def waitDispOnce (s : State) : State :=
  if s.pins.dispDone then finishCycle .ok (closeCall s) else s

/-- WAIT_DISP of PutString: on to the next character, or done (43_decoder R198, R203). -/
def waitDispString (s : State) : State :=
  if s.pins.dispDone then
    let t := { closeCall s with remaining := s.remaining - 1 }
    if s.remaining - 1 = 0 then finishCycle .ok t else goto .getPayload { t with payCnt := 0 }
  else s

/-- One decoder step of a command, by `dstate`: `begin_` is its DISPATCH, `call` its CALL, `wait` its
WAIT_DISP (43_decoder R193, R202, R203). -/
def commandStep (begin_ : State → State) (call : State → Result) (wait : State → State) (s : State) : Result :=
  match s.dstate with
  | .getPayload => getPayloadStep s
  | .call => call s
  | .waitDisp => .next (wait s)
  | .idle => .next (begin_ s)
  | .getId => .next (begin_ s)
  | .getSize => .next (begin_ s)
  | .dispatch => .next (begin_ s)
  | .report => .next (begin_ s)
  | .waitDiag => .next (begin_ s)
  | .done => .next (begin_ s)

/-- The CALL step with the arg registers as the call's arguments; an argument the call ignores carries
its register's last value (30_encoding R100, 43_decoder R203). -/
def callWithArgs (op : DispOp) (s : State) : Result := .next (offerCall op s.arg0 s.arg1 s.arg2 s)

/-- A header that makes no call never reaches CALL (43_decoder R193; log entry 14). -/
def noCall (_s : State) : Result := .refused .noDisplayCall

/-- A step of a malformed frame (43_decoder R201). -/
def malformedStep (s : State) : Result := commandStep dispatchMalformed noCall waitDispOnce s

/-- ClearDisplay (43_decoder R194). -/
def execClearDisplay (s : State) : Result :=
  commandStep (dispatchFixed 0) (callWithArgs .clear) waitDispOnce s

/-- ReturnHome (43_decoder R195). -/
def execReturnHome (s : State) : Result :=
  commandStep (dispatchFixed 0) (callWithArgs .home) waitDispOnce s

/-- SetCursor (43_decoder R196). -/
def execSetCursor (s : State) : Result :=
  commandStep (dispatchFixed 2) (callWithArgs .setCursor) waitDispOnce s

/-- PutChar (43_decoder R197). -/
def execPutChar (s : State) : Result :=
  commandStep (dispatchFixed 1) (callWithArgs .putChar) waitDispOnce s

/-- CALL of ControlDisplay: set_control(display_on, cursor_on, blink_on) (43_decoder R199). -/
def callSetControl (s : State) : Result :=
  .next (offerCall .setControl s.arg0 s.arg1 (blinkArg s.params s.arg1 s.arg2) s)

/-- ControlDisplay (43_decoder R199). -/
def execControlDisplay (s : State) : Result := commandStep (dispatchFixed 3) callSetControl waitDispOnce s

/-- PutString: put_char for each payload byte (43_decoder R198). -/
def execPutString (size : Byte) (s : State) : Result :=
  commandStep (dispatchString size) (callWithArgs .putChar) waitDispString s

/-- PutString with `frame_size` 0 or 1: Malformed (43_decoder R198, R201). -/
def execPutStringShort (_size : Byte) (s : State) : Result := malformedStep s

/-- ClearDisplay with another size: Malformed (43_decoder R201). -/
def execClearDisplayWrongSize (_size : Byte) (s : State) : Result := malformedStep s

/-- ReturnHome with another size: Malformed (43_decoder R201). -/
def execReturnHomeWrongSize (_size : Byte) (s : State) : Result := malformedStep s

/-- SetCursor with another size: Malformed (43_decoder R201). -/
def execSetCursorWrongSize (_size : Byte) (s : State) : Result := malformedStep s

/-- PutChar with another size: Malformed (43_decoder R201). -/
def execPutCharWrongSize (_size : Byte) (s : State) : Result := malformedStep s

/-- ControlDisplay with another size: Malformed (43_decoder R201). -/
def execControlDisplayWrongSize (_size : Byte) (s : State) : Result := malformedStep s

/-- Unknown: the header only is consumed, status Ok (43_decoder R200). -/
def execUnknown (_id _size : Byte) (s : State) : Result := commandStep dispatchUnknown noCall waitDispOnce s

end Sys2Proof.Machine
end

