-- ==== Sys2Proof/Machine/Dispatch.lean ====
section
/-! DEFINITION. The one dispatch of instructions to their meanings. -/

namespace Sys2Proof.Machine

def exec (i : Instr) (s : State) : Host.Outcome State Fault Refusal :=
  match i with
  | .clearDisplay => Sys2Proof.Machine.execClearDisplay s
  | .returnHome => Sys2Proof.Machine.execReturnHome s
  | .setCursor => Sys2Proof.Machine.execSetCursor s
  | .putChar => Sys2Proof.Machine.execPutChar s
  | .controlDisplay => Sys2Proof.Machine.execControlDisplay s
  | .putStringShort size => Sys2Proof.Machine.execPutStringShort size s
  | .putString size => Sys2Proof.Machine.execPutString size s
  | .clearDisplayWrongSize size => Sys2Proof.Machine.execClearDisplayWrongSize size s
  | .returnHomeWrongSize size => Sys2Proof.Machine.execReturnHomeWrongSize size s
  | .setCursorWrongSize size => Sys2Proof.Machine.execSetCursorWrongSize size s
  | .putCharWrongSize size => Sys2Proof.Machine.execPutCharWrongSize size s
  | .controlDisplayWrongSize size => Sys2Proof.Machine.execControlDisplayWrongSize size s
  | .unknown id size => Sys2Proof.Machine.execUnknown id size s
  | .addressWrite consumed bf nak => Sys2Proof.Machine.execAddressWrite consumed bf nak s
  | .dataWrite bf nak => Sys2Proof.Machine.execDataWrite bf nak s
  | .addressRead consumed bf nak => Sys2Proof.Machine.execAddressRead consumed bf nak s
  | .dataRead consumed bf nak => Sys2Proof.Machine.execDataRead consumed bf nak s
  | .idle key => Sys2Proof.Machine.execIdle key s
  | .put getEn => Sys2Proof.Machine.execPut getEn s
  | .get => Sys2Proof.Machine.execGet s
  | .state => Sys2Proof.Machine.execState s

end Sys2Proof.Machine
end

