-- ==== Sys2Proof/Machine/Decoder.lean ====
section
/-! DEFINITION. The decoder's steps that run no command: waiting for a counted frame, fetching the
header, the BufferEmpty abort, the end of a cycle (43_decoder R190 to R192, R204, R205). -/

namespace Sys2Proof.Machine

/-- The decoder states whose step is no part of a command. -/
inductive Control where
  | idle
  | getId
  | getSize
  | report
  | waitDiag
  | done
deriving DecidableEq, Repr

/-- IDLE: a cycle starts when a frame is counted; no `get` is made here (43_decoder R190). -/
def idleStep (s : State) : State := if s.completedFrameCount = 0 then s else goto .getId s

/-- GET_ID (43_decoder R191). -/
def getIdStep (s : State) : Result :=
  andThen (ringGet s) fun t =>
    .next (if t.getErr then raise .bufferEmpty t else goto .getSize { t with frameId := t.getData })

/-- GET_SIZE; a consumed `frame_id` is not put back (43_decoder R192). -/
def getSizeStep (s : State) : Result :=
  andThen (ringGet s) fun t =>
    .next (if t.getErr then raise .bufferEmpty t else goto .dispatch { t with frameSize := t.getData })

/-- REPORT: only BufferEmpty is ever reported (43_decoder R204). -/
def reportStep (s : State) : State := offerReport .bufferEmpty s

/-- WAIT_DIAG: held until `diag_done_i` (43_decoder R204). -/
def waitDiagStep (s : State) : State :=
  if s.pins.diagDone then finishCycle .bufferEmpty (closeReport s) else s

/-- The step of a control state. -/
def controlStep (c : Control) (s : State) : Result :=
  match c with
  | .idle => .next (idleStep s)
  | .getId => getIdStep s
  | .getSize => getSizeStep s
  | .report => .next (reportStep s)
  | .waitDiag => .next (waitDiagStep s)
  | .done => .next (endCycle s)

end Sys2Proof.Machine
end

