-- ==== Sys2Proof/Machine/Fetch.lean ====
section
/-! DEFINITION. What the next atomic step is: whose turn it is and which instruction it runs
(42_receive R170, 43_decoder R206); the reset and the environment's part of a step. -/

namespace Sys2Proof.Machine

/-- One atomic step of the block: an instruction of the table, or a control step of the decoder. -/
inductive Turn where
  | run (i : Instr)
  | control (c : Control)
deriving DecidableEq, Repr

/-- The decoder's next step: the command of the fetched header in DISPATCH, GET_PAYLOAD, CALL and
WAIT_DISP, a control step in the other states (43_decoder R190 to R205). -/
def decoderTurn (s : State) : Turn :=
  match s.dstate with
  | .idle => .control .idle
  | .getId => .control .getId
  | .getSize => .control .getSize
  | .dispatch => .run (decodeHeader (headerOf s))
  | .getPayload => .run (decodeHeader (headerOf s))
  | .call => .run (decodeHeader (headerOf s))
  | .waitDisp => .run (decodeHeader (headerOf s))
  | .report => .control .report
  | .waitDiag => .control .waitDiag
  | .done => .control .done

/-- Whose turn it is. A stimulus that calls the FIFO itself takes the whole step (log entry 11); an
enabled receive step runs before any decoder step (43_decoder R206, 60_exceptions R247). -/
def turn (s : State) : Turn :=
  match s.pins.fifo with
  | some p => .run (decodePort p)
  | none => if receiveEnabled s then .run (decodeKey (eventKey s)) else decoderTurn s

/-- `rst`: every register takes its value of 10_state R40 and every pulse and valid output is 0; the ring
RAM is not cleared (70_reset_and_hazards R280, R281). The parameters and the environment's inputs are
not the block's registers and stay (log entry 20). -/
def applyReset (s : State) : State :=
  { State.reset with
    params := s.params
    ring := s.ring
    pins := s.pins
    upcoming := s.upcoming
    freeCount := s.freeCount }

/-- The inputs once no more are scripted: levels stay, pulses fall (log entry 2). -/
def restingInputs (p : Inputs) : Inputs :=
  { p with rst := false, evt := false, dispDone := false, diagDone := false, fifo := none }

/-- The environment's inputs of the following step (log entry 2). -/
def nextInputs (s : State) : State :=
  match s.upcoming with
  | [] => { s with pins := restingInputs s.pins }
  | p :: ps => { s with pins := p, upcoming := ps }

/-- The start of a step: the pulses of the step before are over. -/
def beginStep (s : State) : State := { s with emitted := [] }

/-- The end of a step: an `evt_i` pulse of this step is recorded, the set winning over the clear
(10_state R25, 60_exceptions R249), and the inputs move on. -/
def endStep (s : State) : State := nextInputs { s with evtPend := evtPendAfter s.pins.evt s.evtPend }

/-- Place a fetched header, an event or a strobe word so that the next step runs it (log entry 3). -/
def placeBytes (s : State) (f : Format) (bytes : List Byte) : State :=
  let q := restingInputs s.pins
  match f, bytes with
  | .frameHdr, id :: size :: _ =>
    { s with pins := q, evtPend := false, dstate := .dispatch, frameId := id, frameSize := size }
  | .snapshotKey, b :: _ =>
    { s with
      pins := { q with snap := b.extractLsb' 0 5 }
      evtPend := true
      rxMask := false
      rxHold := none
      addrConsumed := b.getLsbD 5 }
  | .fifoPort, b :: _ => { s with pins := { q with fifo := some (b.extractLsb' 0 2) } }
  | .frameHdr, _ => s
  | .snapshotKey, [] => s
  | .fifoPort, [] => s

end Sys2Proof.Machine
end

