-- ==== Sys2Proof/Machine/Step.lean ====
section
/-! DEFINITION. One step of the machine: one atomic step of the block under this step's inputs. -/

namespace Sys2Proof.Machine

/-- The atomic step of whoever has the turn. -/
def takeTurn (t : Turn) (s : State) : Host.Outcome State Fault Refusal :=
  match t with
  | .run i => exec i s
  | .control c => controlStep c s

/-- While `rst` is high the registers are reset and `evt_i` is ignored (70_reset_and_hazards R280); else
one atomic step runs, and an `evt_i` pulse is recorded at its end (log entry 1). -/
def step (s : State) : Host.Outcome State Fault Refusal :=
  if s.pins.rst then .next (nextInputs (applyReset s))
  else andThen (takeTurn (turn s) (beginStep s)) fun t => .next (endStep t)

/-- `s` with a table word placed where the next step takes its instruction from (log entry 3); a word
outside the table's widths changes nothing. -/
def State.withFetchWord (s : State) (nbits w : Nat) : State :=
  match tableBytes nbits w with
  | none => s
  | some (f, bytes) => placeBytes s f bytes

end Sys2Proof.Machine
end

