-- ==== Sys2Proof/Machine/Environment.lean ====
section
/-! DEFINITION. The environment of the block (00_scope R10): its duties (60_exceptions R258), the runs in which they
are kept, and the runs of the stimulus line DECODE (30_encoding R104). `step` takes every input; these predicates
say which inputs an environment may give (log entries 12 and 15). -/

namespace Sys2Proof.Machine

/-- An event of class 1 to 4 is pending: the peripheral holds the bus until its clock release (60_exceptions R246). -/
def busHeld (s : State) : Bool := s.evtPend && decodeKey (eventKey s) != .idle (eventKey s)

/-- The duties of 60_exceptions R258 that one step's inputs show: no new event while one of class 1 to 4 is pending;
events of transactions addressed to `BUS_ADDR` only; a done pulse only while its call or report is offered; nothing
raised while `rst` is high. The FIFO's ports are inside the block and are not strobed from outside (30_encoding
R102). -/
@[reducible] def DutiesKept (s : State) : Prop :=
  (s.pins.evt = true → busHeld s = false) ∧
  (s.pins.evt = true → s.pins.evtAddr = Config.busAddr) ∧
  (s.pins.dispDone = true → s.dispValid = true) ∧
  (s.pins.diagDone = true → s.diagValid = true) ∧
  (s.pins.rst = true → s.pins.evt = false ∧ s.pins.dispDone = false ∧ s.pins.diagDone = false) ∧
  s.pins.fifo = none

/-- The duty of 60_exceptions R258 between a step from `s` and the next one from `t`: while an event is pending its
snapshot and its byte stay as they are (10_state R34). -/
@[reducible] def InputsHeld (s t : State) : Prop :=
  t.evtPend = true → t.pins.snap = s.pins.snap ∧ t.pins.rxData = s.pins.rxData

/-- The environment keeps its duties in each of the next `k` steps (00_scope R10). Of any other run the spec's rules
say nothing (60_exceptions R258). -/
def conformingRun : Nat → State → Bool
  | 0, _ => true
  | k + 1, s =>
    decide (DutiesKept s) &&
      match step s with
      | .next t => decide (InputsHeld s t) && conformingRun k t
      | .fault _ => true
      | .refused _ => true

/-- This step's inputs let the decoder run alone and complete a call or report in its first waiting step; a done
input may stand either way where nothing waits for it (30_encoding R104). -/
@[reducible] def DecodesAlone (s : State) : Prop :=
  s.pins.rst = false ∧ s.pins.evt = false ∧ s.pins.fifo = none ∧
  (s.dstate = .waitDisp → s.pins.dispDone = true) ∧ (s.dstate = .waitDiag → s.pins.diagDone = true)

/-- The next `k` steps are a run of the stimulus line DECODE (30_encoding R104). -/
def decodeRun : Nat → State → Bool
  | 0, _ => true
  | k + 1, s =>
    decide (DecodesAlone s) &&
      match step s with
      | .next t => decodeRun k t
      | .fault _ => true
      | .refused _ => true

end Sys2Proof.Machine
end

