-- ==== Sys2Proof/Machine/Ports.lean ====
section
/-! DEFINITION. The codes of the enumerations (30_encoding R98 to R101) and the level outputs of
10_state R33 that are read off the registers. -/

namespace Sys2Proof.Machine

/-- Codes of `fill` (30_encoding R99). -/
def fillCode : Fill → BitVec 2
  | .empty => 0
  | .partial_ => 1
  | .full => 2

/-- Codes of `bts` (30_encoding R99). -/
def btsCode : Bts → BitVec 2
  | .awaitingAddress => 0
  | .inAddressPhase => 1
  | .inDataPhase => 2

/-- Codes of `dstate` (30_encoding R99). -/
def dstateCode : DState → BitVec 4
  | .idle => 0
  | .getId => 1
  | .getSize => 2
  | .dispatch => 3
  | .getPayload => 4
  | .call => 5
  | .waitDisp => 6
  | .report => 7
  | .waitDiag => 8
  | .done => 9

/-- Codes of `class_o` (30_encoding R98). -/
def classCode : EventClass → BitVec 3
  | .idle => 0
  | .addressWrite => 1
  | .dataWrite => 2
  | .addressRead => 3
  | .dataRead => 4

/-- Codes of `disp_op_o` (30_encoding R100). -/
def dispOpCode : DispOp → BitVec 3
  | .none => 0
  | .clear => 1
  | .home => 2
  | .setCursor => 3
  | .putChar => 4
  | .setControl => 6

/-- Codes of `diag_code_o` (30_encoding R101). -/
def errorCode : ErrorCode → BitVec 2
  | .ok => 0
  | .bufferEmpty => 1
  | .malformedFrame => 2
  | .bufferFull => 3

/-- Codes of `dec_status_o` (30_encoding R101). -/
def decStatusCode : DecStatus → BitVec 2
  | .ok => 0
  | .bufferEmpty => 1
  | .malformedFrame => 2

/-- `fill_o`, the value `state()` returns (10_state R33, 40_fifo R132). -/
def fillO (s : State) : BitVec 2 := fillCode s.fill

/-- `frames_pending_o` (10_state R33). -/
def framesPendingO (s : State) : Byte := s.completedFrameCount

/-- `tx_avail_o`, constant 0: no data available for reads (42_receive R174). -/
def txAvailO (_s : State) : Bool := false

/-- `dec_status_o` (10_state R31, R33). -/
def decStatusO (s : State) : BitVec 2 := decStatusCode s.decStatus

/-- `rx_mask_o` (10_state R32, R33). -/
def rxMaskO (s : State) : Bool := s.rxMask

/-- `disp_op_o` (30_encoding R100). -/
def dispOpO (s : State) : BitVec 3 := dispOpCode s.dispOp

/-- `diag_code_o` (30_encoding R101). -/
def diagCodeO (s : State) : BitVec 2 := errorCode s.diagCode

end Sys2Proof.Machine
end

