-- ==== Sys2Proof/Safety.lean ====
section
/-! DEFINITION. What a good state is, in the terms the statements use: the unread bytes of the ring, the
invariant of the whole block, quiescence, and runs of several steps with what they emit. -/

namespace Sys2Proof.Machine

/-! ### The ring as a queue (40_fifo R134, 20_memory R67) -/

/-- `count`, the number of unread bytes (10_state R21): from `fill`, and from the indices when Partial. -/
def unreadCount (s : State) : Nat :=
  match s.fill with
  | .empty => 0
  | .full => s.params.n
  | .partial_ => (s.wrIdx + s.params.n - s.rdIdx) % s.params.n

/-- The unread bytes, oldest first: `ring[(rd_idx + k) mod N]` for `k` below `count` (40_fifo R134). -/
def unread (s : State) : List Byte :=
  (List.range (unreadCount s)).map fun k => Memory.read s.ring ((s.rdIdx + k) % s.params.n)

/-- The FIFO's invariant (10_state R20, R21; 40_fifo R134): indices in range and equal unless Partial; the
RAM in canonical form inside its address space; every unread slot written since power-on (20_memory R76). -/
@[reducible] def FifoInv (s : State) : Prop :=
  1 ≤ s.params.n ∧ s.rdIdx < s.params.n ∧ s.wrIdx < s.params.n ∧
  (s.fill = .partial_ ↔ s.rdIdx ≠ s.wrIdx) ∧
  Memory.wf s.ring = true ∧ (∀ c ∈ s.ring, c.1 < s.params.n) ∧
  ∀ k < unreadCount s, (Memory.lookup s.ring ((s.rdIdx + k) % s.params.n)).isSome = true

/-! ### The receive path and the decoder -/

/-- An instruction decoded from a key is a DataRead. -/
def isDataRead : Instr → Bool
  | .dataRead _ _ _ => true
  | _ => false

/-- The receive path's invariant: `addr_consumed == 1` implies `bts != AwaitingAddress` (41_classifier
R157); a step waits only while its DataRead event is pending and unmasked (60_exceptions R257). -/
@[reducible] def ReceiveInv (s : State) : Prop :=
  (s.addrConsumed = true → s.bts ≠ .awaitingAddress) ∧
  (s.rxHold ≠ none → s.evtPend = true ∧ s.rxMask = false ∧ isDataRead (decodeKey (eventKey s)) = true)

/-- Payload bytes before each Display Surface call of a command; none for a header that makes no call
(43_decoder R193). -/
def payloadNeed : Instr → Option (BitVec 2)
  | .clearDisplay => some 0
  | .returnHome => some 0
  | .setCursor => some 2
  | .putChar => some 1
  | .controlDisplay => some 3
  | .putString _ => some 1
  | .putStringShort _ => none
  | .clearDisplayWrongSize _ => none
  | .returnHomeWrongSize _ => none
  | .setCursorWrongSize _ => none
  | .putCharWrongSize _ => none
  | .controlDisplayWrongSize _ => none
  | .unknown _ _ => none
  | .addressWrite _ _ _ => none
  | .dataWrite _ _ => none
  | .addressRead _ _ _ => none
  | .dataRead _ _ _ => none
  | .idle _ => none
  | .put _ => none
  | .get => none
  | .state => none

/-- The Display Surface call of a command (30_encoding R100). -/
def callOp : Instr → DispOp
  | .clearDisplay => .clear
  | .returnHome => .home
  | .setCursor => .setCursor
  | .putChar => .putChar
  | .controlDisplay => .setControl
  | .putString _ => .putChar
  | .putStringShort _ => .none
  | .clearDisplayWrongSize _ => .none
  | .returnHomeWrongSize _ => .none
  | .setCursorWrongSize _ => .none
  | .putCharWrongSize _ => .none
  | .controlDisplayWrongSize _ => .none
  | .unknown _ _ => .none
  | .addressWrite _ _ _ => .none
  | .dataWrite _ _ => .none
  | .addressRead _ _ _ => .none
  | .dataRead _ _ _ => .none
  | .idle _ => .none
  | .put _ => .none
  | .get => .none
  | .state => .none

/-- The decoder is between DISPATCH and the end of its command's last call. -/
def inCommand (s : State) : Bool :=
  match s.dstate with
  | .getPayload => true
  | .call => true
  | .waitDisp => true
  | _ => false

/-- The decoder's invariant: the mask window and the offers stand exactly in WAIT_DISP and WAIT_DIAG
(43_decoder R203, R204), and a command in progress is one that makes calls, with its counters in
range (43_decoder R193, R202). -/
@[reducible] def DecoderInv (s : State) : Prop :=
  (s.rxMask = true ↔ s.dstate = .waitDisp ∨ s.dstate = .waitDiag) ∧
  (s.dispValid = true ↔ s.dstate = .waitDisp) ∧
  (s.diagValid = true ↔ s.dstate = .waitDiag) ∧
  s.dispOp = (if s.dstate = .waitDisp then callOp (decodeHeader (headerOf s)) else .none) ∧
  (s.diagValid = true → s.diagCode = .bufferEmpty) ∧
  (inCommand s = true → payloadNeed (decodeHeader (headerOf s)) = some s.payNeed) ∧
  (s.dstate = .getPayload → s.payCnt.toNat < s.payNeed.toNat) ∧
  (inCommand s = true → s.frameId = 5 → s.remaining ≠ 0)

/-- The invariant of the block. -/
@[reducible] def BlockInv (s : State) : Prop := FifoInv s ∧ ReceiveInv s ∧ DecoderInv s

/-- Quiescent: no event pending, the decoder in IDLE, no frame counted (00_scope R12). -/
@[reducible] def Quiescent (s : State) : Prop :=
  s.evtPend = false ∧ s.dstate = .idle ∧ s.completedFrameCount = 0

/-! ### Runs -/

/-- `k` steps with all they emit, in order; none if one of them stops. -/
def runTrace : Nat → State → Option (List PortEvent × State)
  | 0, s => some ([], s)
  | k + 1, s =>
    match step s with
    | .next t => (runTrace k t).map fun r => (t.emitted ++ r.1, r.2)
    | .fault _ => none
    | .refused _ => none

/-- What an observer of the Display Surface and the diagnostic channel sees: the calls with the arguments
each one reads (30_encoding R100), and the reports. -/
inductive Shown where
  | clear
  | home
  | setCursor (row column : Byte)
  | putChar (character : Byte)
  | setControl (displayOn cursorOn blinkOn : Byte)
  | bufferEmpty
deriving DecidableEq, Repr

/-- The part of an output event that the Display Surface or the diagnostic channel reads. -/
def shown : PortEvent → Option Shown
  | .disp .clear _ _ _ => some .clear
  | .disp .home _ _ _ => some .home
  | .disp .setCursor a0 a1 _ => some (.setCursor a0 a1)
  | .disp .putChar a0 _ _ => some (.putChar a0)
  | .disp .setControl a0 a1 a2 => some (.setControl a0 a1 a2)
  | .diag .bufferEmpty => some .bufferEmpty
  | _ => none

/-- A whole decode cycle from IDLE takes `k` steps, shows `calls`, ends with `status` and leaves `rest`
unread (43_decoder R207): the count is one less and the decoder is back in IDLE. -/
@[reducible] def CycleShows (s : State) (k : Nat) (calls : List Shown) (status : DecStatus) (rest : List Byte) : Prop :=
  ∃ es t, runTrace k s = some (es, t) ∧ es.filterMap shown = calls ∧ unread t = rest ∧
    PortEvent.decDone status ∈ es ∧ t.decStatus = status ∧ t.dstate = .idle ∧
    t.completedFrameCount = s.completedFrameCount - 1

/-- The decoder stands in IDLE with a frame counted and no event pending, and the next `k` steps are a run of the
stimulus line DECODE (30_encoding R104). -/
@[reducible] def ReadyToDecode (k : Nat) (s : State) : Prop :=
  BlockInv s ∧ s.dstate = .idle ∧ s.completedFrameCount ≠ 0 ∧ s.evtPend = false ∧ decodeRun k s = true

/-- `put` each byte in turn (the stimulus line PUT of 30_encoding R104). -/
def putAll : List Byte → State → Result
  | [], s => .next s
  | b :: bs, s => andThen (exec (.put false) { s with pins := { s.pins with putData := b } }) (putAll bs)

/-- `get` until one is refused or `k` bytes are out: the bytes and the state after (the stimulus line GET). -/
def getAll : Nat → State → Option (List Byte × State)
  | 0, s => some ([], s)
  | k + 1, s =>
    match exec .get s with
    | .next t => if t.getErr then none else (getAll k t).map fun r => (t.getData :: r.1, r.2)
    | .fault _ => none
    | .refused _ => none

/-- Any sequence of FIFO strobes `{put_en, get_en}`, each with its `put_data`: the bytes of the accepted `put` calls,
the bytes of the accepted `get` calls, both in order, and the state after (20_memory R67). -/
def fifoRun : List (PortWord × Byte) → State → Option (List Byte × List Byte × State)
  | [], s => some ([], [], s)
  | (p, b) :: ops, s =>
    match exec (decodePort p) { s with pins := { s.pins with putData := b } } with
    | .next t => (fifoRun ops t).map fun r =>
        ((if p.getLsbD 1 && !t.putErr then [b] else []) ++ r.1,
         (if p.getLsbD 0 && !t.getErr then [t.getData] else []) ++ r.2.1,
         r.2.2)
    | .fault _ => none
    | .refused _ => none

/-- One data-write event per byte, each handled at once (the pseudo-operation DW of 30_encoding R105). -/
def receiveAll : List Byte → State → Result
  | [], s => .next s
  | b :: bs, s =>
    andThen (exec (.dataWrite true false) { s with pins := { s.pins with rxData := b } }) (receiveAll bs)

end Sys2Proof.Machine
end

