-- ==== Sys2Proof/Certificates/Slice0/Obligations.lean ====
section
/-! DEFINITION. The statements for the provers. -/

open Sys2Proof Sys2Proof.Machine

/-! ### The FIFO -/

/-- 40_fifo R130. An accepted `put` stores the byte at the write index, advances it with wrap-around, sets `fill`
to Full or Partial and answers Ok, and every other slot and all other state is as before; a `put` into a Full
ring answers Err(Full) and changes nothing else. -/
def Obligations.PutFollowsItsRule : Prop :=
  ∀ s : State,
    (s.fill ≠ .full → s.wrIdx < s.params.n →
      ∃ t, exec (.put false) s = .next t ∧
        Memory.read t.ring s.wrIdx = s.pins.putData ∧
        (∀ a, a ≠ s.wrIdx → Memory.read t.ring a = Memory.read s.ring a) ∧
        t.wrIdx = (s.wrIdx + 1) % s.params.n ∧
        t.fill = (if (s.wrIdx + 1) % s.params.n = s.rdIdx then .full else .partial_) ∧
        t.putErr = false ∧
        t = { s with ring := t.ring, wrIdx := t.wrIdx, fill := t.fill, putErr := t.putErr }) ∧
    (s.fill = .full → exec (.put false) s = .next { s with putErr := true })

/-- 40_fifo R131. An accepted `get` returns the byte at the read index, advances the index with wrap-around and sets
`fill` to Empty or Partial; the slot is not erased and all else is as before. A `get` from an Empty ring answers
Err(Empty) and moves nothing; `get_data` is then any value (93 U11, log entry 6). -/
def Obligations.GetFollowsItsRule : Prop :=
  ∀ s : State,
    (s.fill ≠ .empty → s.rdIdx < s.params.n →
      exec .get s = .next { s with
        rdIdx := (s.rdIdx + 1) % s.params.n
        fill := if (s.rdIdx + 1) % s.params.n = s.wrIdx then .empty else .partial_
        getErr := false
        getData := Memory.read s.ring s.rdIdx }) ∧
    (s.fill = .empty →
      ∃ t, exec .get s = .next t ∧ t.getErr = true ∧
        t = { s with getErr := true, getData := t.getData, freeCount := t.freeCount })

/-- 40_fifo R132, 30_encoding R99: `state()` changes nothing, and `fill_o` carries the code of `fill`. -/
def Obligations.StateIsAPureObserver : Prop :=
  ∀ s : State, ∃ t, exec .state s = .next t ∧ t = s ∧ exec .state t = .next t ∧
    fillO t = (match s.fill with | .empty => 0b00#2 | .partial_ => 0b01#2 | .full => 0b10#2)

/-- 40_fifo R133: `put` and `get` presented in one step, row by row of the table. -/
def Obligations.SameStepPutAndGet : Prop :=
  ∀ s : State, FifoInv s →
    ∃ t, exec (.put true) s = .next t ∧
      (s.fill = .empty → t.putErr = false ∧ t.getErr = true ∧ t.rdIdx = s.rdIdx ∧
        t.wrIdx = (s.wrIdx + 1) % s.params.n ∧ t.fill = (if s.params.n = 1 then .full else .partial_) ∧
        t.ring = Memory.write s.ring s.wrIdx s.pins.putData) ∧
      (s.fill = .partial_ → t.putErr = false ∧ t.getErr = false ∧
        t.getData = Memory.read s.ring s.rdIdx ∧ t.rdIdx = (s.rdIdx + 1) % s.params.n ∧
        t.wrIdx = (s.wrIdx + 1) % s.params.n ∧ t.fill = .partial_ ∧
        t.ring = Memory.write s.ring s.wrIdx s.pins.putData) ∧
      (s.fill = .full → t.putErr = true ∧ t.getErr = false ∧
        t.getData = Memory.read s.ring s.rdIdx ∧ t.rdIdx = (s.rdIdx + 1) % s.params.n ∧
        t.wrIdx = s.wrIdx ∧ t.fill = (if s.params.n = 1 then .empty else .partial_) ∧ t.ring = s.ring) ∧
      t = { s with
        ring := t.ring, rdIdx := t.rdIdx, wrIdx := t.wrIdx, fill := t.fill, putErr := t.putErr,
        getErr := t.getErr, getData := t.getData, freeCount := t.freeCount }

/-- 20_memory R70, 40_fifo R133: the same-step pair is one of the two sequential orders; from Partial it is
both of them. -/
def Obligations.SameStepPairEqualsSequentialOrder : Prop :=
  ∀ s : State, FifoInv s →
    (s.fill ≠ .full → exec (.put true) s = andThen (exec .get s) (exec (.put false))) ∧
    (s.fill ≠ .empty → exec (.put true) s = andThen (exec (.put false) s) (exec .get))

/-- 40_fifo R134, 10_state R21. After any sequence of `put` and `get` strobes from an Empty ring, with `count` the
number of accepted `put` calls minus that of accepted `get` calls: `fill`, the two indices and the unread bytes
are as `count` says. -/
def Obligations.FillAndIndicesFollowTheCount : Prop :=
  ∀ (s : State) (ops : List (PortWord × Byte)), FifoInv s → s.fill = .empty →
    ∃ puts gets t, fifoRun ops s = some (puts, gets, t) ∧ gets.length ≤ puts.length ∧
      let n := s.params.n
      let count := puts.length - gets.length
      count ≤ n ∧
      (t.fill = .empty ↔ count = 0) ∧ (t.fill = .full ↔ count = n) ∧
      (t.fill = .partial_ ↔ 0 < count ∧ count < n) ∧
      (t.wrIdx + n - t.rdIdx) % n = count % n ∧
      (t.rdIdx = t.wrIdx ↔ t.fill = .empty ∨ t.fill = .full) ∧
      puts.drop gets.length = (List.range count).map fun k => Memory.read t.ring ((t.rdIdx + k) % n)

/-- 20_memory R67, the queue law. After any sequence of `put` and `get` strobes from an Empty ring, the k-th byte
returned by an accepted `get` is the k-th byte an accepted `put` was given, and the rest is still unread. -/
def Obligations.QueueLaw : Prop :=
  ∀ (s : State) (ops : List (PortWord × Byte)), FifoInv s → s.fill = .empty →
    ∃ puts gets t, fifoRun ops s = some (puts, gets, t) ∧ puts = gets ++ unread t

/-- 20_memory R67: the ring refines a queue. An accepted `put` appends its byte, an accepted `get`
returns and removes the oldest one, refused calls change nothing, and the invariant stays. -/
def Obligations.RingRefinesAQueue : Prop :=
  ∀ s : State, FifoInv s →
    (s.fill ≠ .full → ∃ t, exec (.put false) s = .next t ∧ FifoInv t ∧ t.putErr = false ∧
      unread t = unread s ++ [s.pins.putData]) ∧
    (s.fill = .full → ∃ t, exec (.put false) s = .next t ∧ FifoInv t ∧ t.putErr = true ∧ unread t = unread s) ∧
    (∀ b rest, unread s = b :: rest → ∃ t, exec .get s = .next t ∧ FifoInv t ∧ t.getErr = false ∧
      t.getData = b ∧ unread t = rest) ∧
    (unread s = [] → ∃ t, exec .get s = .next t ∧ FifoInv t ∧ t.getErr = true ∧ unread t = [])

/-- 20_memory R75: after exactly N accepted `put` calls from Empty the next is refused, and N `get` calls
return the N bytes in order and leave the ring Empty. -/
def Obligations.RingHoldsExactlyNBytes : Prop :=
  ∀ (s : State) (bs : List Byte), FifoInv s → s.fill = .empty → bs.length = s.params.n →
    ∃ t, putAll bs s = .next t ∧ t.fill = .full ∧ exec (.put false) t = .next { t with putErr := true } ∧
      ∃ u, getAll s.params.n t = some (bs, u) ∧ u.fill = .empty

/-! ### Bus events -/

/-- 41_classifier R151, 42_receive R171, 42_receive R176: the whole receive step of an AddressWrite event. -/
def Obligations.AddressWriteStartsATransaction : Prop :=
  ∀ (s : State) (consumed bf nak : Bool),
    exec (.addressWrite consumed bf nak) s = .next { s with
      addrConsumed := true
      bts := .inAddressPhase
      rxIdx := 0
      declSize := 0
      evtPend := false
      rxHold := none
      emitted := s.emitted ++ [.classValid .addressWrite, .clrOv] ++
        (if s.params.addrEventReadsData then [.rxRd] else []) ++ [.clkRelease] }

/-- 41_classifier R153, 42_receive R172: the whole receive step of an AddressRead event; no overflow clear. -/
def Obligations.AddressReadAbandonsTheTransaction : Prop :=
  ∀ (s : State) (consumed bf nak : Bool),
    exec (.addressRead consumed bf nak) s = .next { s with
      addrConsumed := false
      bts := .inAddressPhase
      rxIdx := 0
      declSize := 0
      evtPend := false
      rxHold := none
      emitted := s.emitted ++ [.classValid .addressRead] ++
        (if s.params.addrEventReadsData then [.rxRd] else []) ++ [.clkRelease] }

/-- 42_receive R173, 41_classifier R152, 60_exceptions R241. A data-write event: one read of the byte, one `put`; a
taken byte goes to the write index, a refused one is lost with one `rx_lost_o` pulse; either way the size is
captured at `rx_idx == 1` and used at once, a complete frame is counted, and the index advances modulo 256. -/
def Obligations.DataWriteFollowsItsRule : Prop :=
  ∀ (s : State) (bf nak : Bool),
    let declNow := if s.rxIdx = 1 then s.pins.rxData - 1 else s.declSize
    let count :=
      if s.rxIdx = declNow ∧ s.rxIdx ≠ 0 then s.completedFrameCount + 1 else s.completedFrameCount
    (s.fill ≠ .full → s.wrIdx < s.params.n →
      ∃ t, exec (.dataWrite bf nak) s = .next t ∧
        Memory.read t.ring s.wrIdx = s.pins.rxData ∧
        (∀ a, a ≠ s.wrIdx → Memory.read t.ring a = Memory.read s.ring a) ∧
        t = { s with
          ring := t.ring
          wrIdx := (s.wrIdx + 1) % s.params.n
          fill := if (s.wrIdx + 1) % s.params.n = s.rdIdx then .full else .partial_
          putErr := false
          bts := .inDataPhase
          declSize := declNow
          completedFrameCount := count
          rxIdx := s.rxIdx + 1
          evtPend := false
          rxHold := none
          emitted := s.emitted ++ [.classValid .dataWrite, .clrOv, .rxRd, .clkRelease] }) ∧
    (s.fill = .full →
      exec (.dataWrite bf nak) s = .next { s with
        putErr := true
        bts := .inDataPhase
        declSize := declNow
        completedFrameCount := count
        rxIdx := s.rxIdx + 1
        evtPend := false
        rxHold := none
        emitted := s.emitted ++ [.classValid .dataWrite, .clrOv, .rxRd, .rxLost, .clkRelease] })

/-- 42_receive R174, 41_classifier R154. A DataRead event pulses the collision clear and waits: with `wcol_i` low it
completes at once, with `wcol_i` high it stays in handling, the clear having been pulsed once, until a step sees
`wcol_i` low. PendingFrame and `addr_consumed` are untouched throughout, and `tx_avail_o` is 0. -/
def Obligations.DataReadWaitsForCollisionClear : Prop :=
  ∀ (s : State) (consumed bf nak : Bool),
    txAvailO s = false ∧
    (s.rxHold = none → s.pins.wcol = false →
      exec (.dataRead consumed bf nak) s = .next { s with
        bts := .inDataPhase
        evtPend := false
        emitted := s.emitted ++ [.classValid .dataRead, .clrWcol, .clkRelease] }) ∧
    (s.rxHold = none → s.pins.wcol = true →
      exec (.dataRead consumed bf nak) s = .next { s with
        rxHold := some (keyBits consumed true true true bf nak)
        emitted := s.emitted ++ [.classValid .dataRead, .clrWcol] }) ∧
    (s.rxHold ≠ none → s.pins.wcol = true → exec (.dataRead consumed bf nak) s = .next s) ∧
    (s.rxHold ≠ none → s.pins.wcol = false →
      exec (.dataRead consumed bf nak) s = .next { s with
        bts := .inDataPhase
        evtPend := false
        rxHold := none
        emitted := s.emitted ++ [.clkRelease] })

/-- 42_receive R175, 41_classifier R155. An Idle event clears `evt_pend` and changes nothing else: no pulse of any kind
(92_eei_decisions D11), no read, no clear, no clock release. -/
def Obligations.IdleEventOnlyClearsPending : Prop :=
  ∀ (s : State) (key : Key), exec (.idle key) s = .next { s with evtPend := false, rxHold := none }

/-- 41_classifier R156, 30_encoding R97: the classification of every key, row by row of the truth table. -/
def Obligations.ClassificationFollowsTheTruthTable : Prop :=
  ∀ (consumed : Bool) (snap : Snap),
    decodeKey (mkKey consumed snap) =
      match snap.getLsbD 4, snap.getLsbD 2, snap.getLsbD 3, consumed with
      | false, _, _, _ => .idle (mkKey consumed snap)
      | true, false, false, _ => .addressWrite consumed (snap.getLsbD 1) (snap.getLsbD 0)
      | true, false, true, true => .dataWrite (snap.getLsbD 1) (snap.getLsbD 0)
      | true, false, true, false => .idle (mkKey consumed snap)
      | true, true, false, _ => .addressRead consumed (snap.getLsbD 1) (snap.getLsbD 0)
      | true, true, true, _ => .dataRead consumed (snap.getLsbD 1) (snap.getLsbD 0)

/-- 41_classifier R156, 42_receive R170: an enabled receive step runs the class the truth table gives for the
snapshot sampled in that step. -/
def Obligations.ReceiveStepRunsTheClassOfTheTruthTable : Prop :=
  ∀ s : State, s.pins.rst = false → s.pins.fifo = none → s.evtPend = true → s.rxMask = false →
    s.rxHold = none →
    ∃ i, step s = andThen (exec i (beginStep s)) (fun t => .next (endStep t)) ∧
      i = (match s.pins.snap.getLsbD 4, s.pins.snap.getLsbD 2, s.pins.snap.getLsbD 3 with
        | false, _, _ => .idle (mkKey s.addrConsumed s.pins.snap)
        | true, false, false => .addressWrite s.addrConsumed (s.pins.snap.getLsbD 1) (s.pins.snap.getLsbD 0)
        | true, false, true =>
          if s.addrConsumed then .dataWrite (s.pins.snap.getLsbD 1) (s.pins.snap.getLsbD 0)
          else .idle (mkKey s.addrConsumed s.pins.snap)
        | true, true, false => .addressRead s.addrConsumed (s.pins.snap.getLsbD 1) (s.pins.snap.getLsbD 0)
        | true, true, true => .dataRead s.addrConsumed (s.pins.snap.getLsbD 1) (s.pins.snap.getLsbD 0))

/-- 41_classifier R160, 10_state R27: in one step `addr_consumed` rises only by an AddressWrite, and falls only by
an AddressRead or `rst`. -/
def Obligations.AddrConsumedFollowsAddressEvents : Prop :=
  ∀ s t : State, step s = .next t →
    (s.addrConsumed = false → t.addrConsumed = true →
      s.pins.rst = false ∧ ∃ c bf nak, turn s = .run (.addressWrite c bf nak)) ∧
    (s.addrConsumed = true → t.addrConsumed = false →
      s.pins.rst = true ∨ ∃ c bf nak, turn s = .run (.addressRead c bf nak))

/-- 42_receive R177: a frame of declared size L (2 to 255) sent as an AddressWrite and L data-write events is
counted exactly once, in the step of its last byte, whatever `put` returned for each byte. -/
def Obligations.FrameIsCountedOnceAtItsLastByte : Prop :=
  ∀ (s : State) (consumed bf nak : Bool) (id size : Byte) (rest : List Byte),
    FifoInv s → 2 ≤ size.toNat → rest.length + 2 = size.toNat →
    ∃ a t, exec (.addressWrite consumed bf nak) s = .next a ∧ receiveAll (id :: size :: rest) a = .next t ∧
      t.completedFrameCount = s.completedFrameCount + 1 ∧ t.rxIdx = size ∧ t.declSize = size - 1 ∧
      ∀ k u, k < size.toNat → receiveAll ((id :: size :: rest).take k) a = .next u →
        u.completedFrameCount = s.completedFrameCount

/-! ### Frame commands -/

/-- 43_decoder R193, over the header registers: what the DISPATCH step of the fetched header does, for each value of
`frame_id` and `frame_size`. -/
def Obligations.DispatchChecksTheSizeByIdentifier : Prop :=
  ∀ s : State, s.dstate = .dispatch →
    let t : State := { s with payCnt := 0 }
    let malformed : State := { t with decStatus := .malformedFrame, dstate := .done }
    let fixed (size : Byte) (need : BitVec 2) (next : DState) : State :=
      if s.frameSize = size then { t with payNeed := need, dstate := next } else malformed
    exec (decodeHeader (headerOf s)) s = .next
      (if s.frameId = 1 then fixed 2 0 .call
      else if s.frameId = 2 then fixed 2 0 .call
      else if s.frameId = 3 then fixed 4 2 .getPayload
      else if s.frameId = 4 then fixed 3 1 .getPayload
      else if s.frameId = 5 then
        if s.frameSize.toNat < 2 then malformed
        else if s.frameSize = 2 then { t with remaining := 0, payNeed := 1, decStatus := .ok, dstate := .done }
        else { t with remaining := s.frameSize - 2, payNeed := 1, dstate := .getPayload }
      else if s.frameId = 6 then fixed 5 3 .getPayload
      else { t with decStatus := .ok, dstate := .done })

/-- 43_decoder R193, R194 to R201. DISPATCH, instruction by instruction: the payload counters and the next `dstate`; the empty string
and an unknown identifier end the cycle with status Ok, a known identifier with another command's size with
MalformedFrame; no `get`, no call, no report. -/
def Obligations.DispatchFollowsItsTable : Prop :=
  ∀ (s : State) (id size : Byte) (i : Instr), s.dstate = .dispatch →
    exec .clearDisplay s = .next { s with payCnt := 0, payNeed := 0, dstate := .call } ∧
    exec .returnHome s = .next { s with payCnt := 0, payNeed := 0, dstate := .call } ∧
    exec .setCursor s = .next { s with payCnt := 0, payNeed := 2, dstate := .getPayload } ∧
    exec .putChar s = .next { s with payCnt := 0, payNeed := 1, dstate := .getPayload } ∧
    exec .controlDisplay s = .next { s with payCnt := 0, payNeed := 3, dstate := .getPayload } ∧
    exec (.putString size) s = .next { s with
      payCnt := 0
      payNeed := 1
      remaining := size - 2
      dstate := if size = 2 then .done else .getPayload
      decStatus := if size = 2 then .ok else s.decStatus } ∧
    exec (.unknown id size) s = .next { s with payCnt := 0, decStatus := .ok, dstate := .done } ∧
    (i = .putStringShort size ∨ i = .clearDisplayWrongSize size ∨ i = .returnHomeWrongSize size ∨
        i = .setCursorWrongSize size ∨ i = .putCharWrongSize size ∨ i = .controlDisplayWrongSize size →
      exec i s = .next { s with payCnt := 0, decStatus := .malformedFrame, dstate := .done })

/-- 43_decoder R203, 30_encoding R100: the CALL step of each command offers its own call inside a mask window;
set_control takes its blink argument as `CTRL_BLINK_CONFLATE` says (43_decoder R199). The argument ports keep these
values for the arguments a call ignores (30_encoding R100, log entry 8). -/
def Obligations.CallStepOffersTheCommandsCall : Prop :=
  ∀ (s : State) (size : Byte), s.dstate = .call →
    let offered (op : DispOp) (a2 : Byte) : State :=
      { s with
        rxMask := true
        dispValid := true
        dispOp := op
        dispArg0 := s.arg0
        dispArg1 := s.arg1
        dispArg2 := a2
        emitted := s.emitted ++ [.disp op s.arg0 s.arg1 a2]
        dstate := .waitDisp }
    exec .clearDisplay s = .next (offered .clear s.arg2) ∧
    exec .returnHome s = .next (offered .home s.arg2) ∧
    exec .setCursor s = .next (offered .setCursor s.arg2) ∧
    exec .putChar s = .next (offered .putChar s.arg2) ∧
    exec (.putString size) s = .next (offered .putChar s.arg2) ∧
    exec .controlDisplay s =
      .next (offered .setControl (if s.params.blinkConflate then s.arg1 else s.arg2))

/-- 43_decoder R202. GET_PAYLOAD dequeues one byte into the next arg register and goes to CALL when all bytes of the
call are in; a `get` that fails raises BufferEmpty: no arg register changes and no call is made. -/
def Obligations.GetPayloadLoadsTheNextArgument : Prop :=
  ∀ (s : State) (size : Byte) (i : Instr), s.dstate = .getPayload →
    i = .setCursor ∨ i = .putChar ∨ i = .controlDisplay ∨ i = .putString size →
    (s.fill ≠ .empty → s.rdIdx < s.params.n → s.payCnt ≠ 3 →
      exec i s = .next { s with
        rdIdx := (s.rdIdx + 1) % s.params.n
        fill := if (s.rdIdx + 1) % s.params.n = s.wrIdx then .empty else .partial_
        getErr := false
        getData := Memory.read s.ring s.rdIdx
        arg0 := if s.payCnt = 0 then Memory.read s.ring s.rdIdx else s.arg0
        arg1 := if s.payCnt = 1 then Memory.read s.ring s.rdIdx else s.arg1
        arg2 := if s.payCnt = 2 then Memory.read s.ring s.rdIdx else s.arg2
        payCnt := s.payCnt + 1
        dstate := if s.payCnt + 1 = s.payNeed then .call else .getPayload }) ∧
    (s.fill = .empty →
      ∃ t, exec i s = .next t ∧
        t = { s with getErr := true, getData := t.getData, freeCount := t.freeCount, dstate := .report })

/-- 43_decoder R203: WAIT_DISP is held until `disp_done_i`; then the window closes and a command of one call is
done with status Ok. That the idle port carries `disp_op_o` 0 is log entry 8. -/
def Obligations.WaitDispEndsACommandOfOneCall : Prop :=
  ∀ (s : State) (i : Instr), s.dstate = .waitDisp →
    i = .clearDisplay ∨ i = .returnHome ∨ i = .setCursor ∨ i = .putChar ∨ i = .controlDisplay →
    (s.pins.dispDone = false → exec i s = .next s) ∧
    (s.pins.dispDone = true → exec i s = .next { s with
      rxMask := false, dispValid := false, dispOp := .none, decStatus := .ok, dstate := .done })

/-- 43_decoder R203, R198: in WAIT_DISP of PutString, with a character counted in `remaining`, the completed call counts
it off; the next one is dequeued, or the cycle ends with status Ok. That the idle port carries `disp_op_o` 0 is
log entry 8. -/
def Obligations.WaitDispCountsACharacter : Prop :=
  ∀ (s : State) (size : Byte), s.dstate = .waitDisp → s.remaining ≠ 0 →
    (s.pins.dispDone = false → exec (.putString size) s = .next s) ∧
    (s.pins.dispDone = true → s.remaining ≠ 1 → exec (.putString size) s = .next { s with
      rxMask := false, dispValid := false, dispOp := .none, remaining := s.remaining - 1, payCnt := 0,
      dstate := .getPayload }) ∧
    (s.pins.dispDone = true → s.remaining = 1 → exec (.putString size) s = .next { s with
      rxMask := false, dispValid := false, dispOp := .none, remaining := 0, decStatus := .ok,
      dstate := .done })

/-! ### The decoder's own steps -/

/-- 43_decoder R190: in IDLE the decoder leaves for GET_ID when a frame is counted; otherwise it stays, and in
neither case is the ring touched. -/
def Obligations.IdleStartsOnACountedFrame : Prop :=
  ∀ s : State, s.pins.rst = false → s.pins.fifo = none → receiveEnabled s = false → s.dstate = .idle →
    step s = .next (endStep { s with
      emitted := [], dstate := if s.completedFrameCount = 0 then .idle else .getId })

/-- 43_decoder R191, R192: GET_ID and GET_SIZE each dequeue one header byte; when the ring is Empty the cycle
goes to REPORT and the header register keeps its value. -/
def Obligations.HeaderIsFetchedByTwoGets : Prop :=
  ∀ s : State, s.pins.rst = false → s.pins.fifo = none → receiveEnabled s = false → s.rdIdx < s.params.n →
    s.dstate = .getId ∨ s.dstate = .getSize →
    (s.fill ≠ .empty → step s = .next (endStep { s with
      emitted := []
      rdIdx := (s.rdIdx + 1) % s.params.n
      fill := if (s.rdIdx + 1) % s.params.n = s.wrIdx then .empty else .partial_
      getErr := false
      getData := Memory.read s.ring s.rdIdx
      frameId := if s.dstate = .getId then Memory.read s.ring s.rdIdx else s.frameId
      frameSize := if s.dstate = .getId then s.frameSize else Memory.read s.ring s.rdIdx
      dstate := if s.dstate = .getId then .getSize else .dispatch })) ∧
    (s.fill = .empty → ∃ d f, step s = .next (endStep { s with
      emitted := [], getErr := true, getData := d, freeCount := f, dstate := .report }))

/-- 43_decoder R204: REPORT offers diag(BufferEmpty) inside a mask window; WAIT_DIAG is held until `diag_done_i` and
ends the cycle with status BufferEmpty. -/
def Obligations.BufferEmptyIsReportedThenEnds : Prop :=
  ∀ s : State, s.pins.rst = false → s.pins.fifo = none → receiveEnabled s = false →
    (s.dstate = .report → step s = .next (endStep { s with
      rxMask := true, diagValid := true, diagCode := .bufferEmpty, emitted := [.diag .bufferEmpty],
      dstate := .waitDiag })) ∧
    (s.dstate = .waitDiag → s.pins.diagDone = false → step s = .next (endStep { s with emitted := [] })) ∧
    (s.dstate = .waitDiag → s.pins.diagDone = true → step s = .next (endStep { s with
      emitted := [], rxMask := false, diagValid := false, decStatus := .bufferEmpty, dstate := .done }))

/-- 43_decoder R205: DONE decrements the count modulo 256, emits `dec_done` with the status and returns to IDLE. -/
def Obligations.DoneCountsTheFrameOff : Prop :=
  ∀ s : State, s.pins.rst = false → s.pins.fifo = none → receiveEnabled s = false → s.dstate = .done →
    step s = .next (endStep { s with
      completedFrameCount := s.completedFrameCount - 1, emitted := [.decDone s.decStatus], dstate := .idle })

/-! ### Whole decode cycles

Runs of the stimulus line DECODE (30_encoding R104): no reset, no event, no FIFO stimulus, and each call or report
completed in its first waiting step. The done inputs are free elsewhere: an environment that keeps them low there, as
60_exceptions R258 asks, is covered, and one that does not is covered as log entry 12 says. -/

/-- 43_decoder R207: a well-formed frame of fixed size shows exactly its own call, consumes exactly its bytes and
ends Ok, from every state and whatever stands behind it in the ring. -/
def Obligations.FixedCommandCycleShowsItsCall : Prop :=
  ∀ (s : State) (a b c : Byte) (rest : List Byte),
    (ReadyToDecode 7 s → unread s = 0x01 :: 0x02 :: rest → CycleShows s 7 [.clear] .ok rest) ∧
    (ReadyToDecode 7 s → unread s = 0x02 :: 0x02 :: rest → CycleShows s 7 [.home] .ok rest) ∧
    (ReadyToDecode 9 s → unread s = 0x03 :: 0x04 :: a :: b :: rest → CycleShows s 9 [.setCursor a b] .ok rest) ∧
    (ReadyToDecode 8 s → unread s = 0x04 :: 0x03 :: a :: rest → CycleShows s 8 [.putChar a] .ok rest) ∧
    (ReadyToDecode 10 s → unread s = 0x06 :: 0x05 :: a :: b :: c :: rest →
      CycleShows s 10 [.setControl a b (if s.params.blinkConflate then b else c)] .ok rest)

/-- 43_decoder R198, R207: a PutString frame shows each of its characters by one put_char, in order, and consumes
exactly its bytes. -/
def Obligations.PutStringCycleShowsEveryCharacter : Prop :=
  ∀ (s : State) (size : Byte) (chars rest : List Byte), chars.length + 2 = size.toNat →
    ReadyToDecode (5 + 3 * chars.length) s → unread s = 0x05 :: size :: (chars ++ rest) →
    CycleShows s (5 + 3 * chars.length) (chars.map .putChar) .ok rest

/-- 43_decoder R207, R200, R201: a malformed frame ends MalformedFrame and an unknown one Ok, each with its two header
bytes consumed and nothing shown; the bytes behind stay. -/
def Obligations.SkippedFrameConsumesOnlyItsHeader : Prop :=
  ∀ (s : State) (id size : Byte) (rest : List Byte), ReadyToDecode 5 s → unread s = id :: size :: rest →
    ((id = 1 ∧ size ≠ 2) ∨ (id = 2 ∧ size ≠ 2) ∨ (id = 3 ∧ size ≠ 4) ∨ (id = 4 ∧ size ≠ 3) ∨
        (id = 5 ∧ size.toNat < 2) ∨ (id = 6 ∧ size ≠ 5) →
      CycleShows s 5 [] .malformedFrame rest) ∧
    (id = 0 ∨ 7 ≤ id.toNat → CycleShows s 5 [] .ok rest)

/-- 43_decoder R207, R198, R202: a PutString whose bytes run out shows the characters that are there, then one
BufferEmpty report, and ends BufferEmpty with the ring Empty. -/
def Obligations.TruncatedPutStringReportsBufferEmpty : Prop :=
  ∀ (s : State) (size : Byte) (chars : List Byte), chars.length + 2 < size.toNat →
    ReadyToDecode (8 + 3 * chars.length) s → unread s = 0x05 :: size :: chars →
    CycleShows s (8 + 3 * chars.length) (chars.map .putChar ++ [.bufferEmpty]) .bufferEmpty []

/-- 43_decoder R207, R191, R192, R202: a frame of fixed size, or a header, whose bytes run out makes no call: one
BufferEmpty report, status BufferEmpty, and the bytes that were there are gone. -/
def Obligations.TruncatedFrameReportsBufferEmpty : Prop :=
  ∀ (s : State) (id a b : Byte),
    (ReadyToDecode 5 s → unread s = [] → CycleShows s 5 [.bufferEmpty] .bufferEmpty []) ∧
    (ReadyToDecode 6 s → unread s = [id] → CycleShows s 6 [.bufferEmpty] .bufferEmpty []) ∧
    (ReadyToDecode 8 s → unread s = [0x03, 0x04] ∨ unread s = [0x04, 0x03] ∨ unread s = [0x06, 0x05] →
      CycleShows s 8 [.bufferEmpty] .bufferEmpty []) ∧
    (ReadyToDecode 9 s → unread s = [0x03, 0x04, a] ∨ unread s = [0x06, 0x05, a] →
      CycleShows s 9 [.bufferEmpty] .bufferEmpty []) ∧
    (ReadyToDecode 10 s → unread s = [0x06, 0x05, a, b] → CycleShows s 10 [.bufferEmpty] .bufferEmpty [])

/-! ### The whole machine -/

/-- When the next step's instruction is `i`, the step is `exec i`, between the end of the last pulses and the
recording of this step's event (42_receive R170, 43_decoder R206; log entry 1). -/
def Obligations.StepRunsTheDecodedInstruction : Prop :=
  ∀ (s : State) (i : Instr), s.pins.rst = false → i.wf = true →
    ((∃ p, s.pins.fifo = some p ∧ decode .fifoPort [p.zeroExtend 8] = .ok (i, [])) ∨
      (s.pins.fifo = none ∧ receiveEnabled s = true ∧
        decode .snapshotKey [keyByte (eventKey s)] = .ok (i, [])) ∨
      (s.pins.fifo = none ∧ receiveEnabled s = false ∧ (s.dstate = .dispatch ∨ inCommand s = true) ∧
        decode .frameHdr [s.frameId, s.frameSize] = .ok (i, []))) →
    (∀ t, exec i { s with emitted := [] } = .next t →
      step s = .next (nextInputs { t with evtPend := t.pins.evt || t.evtPend })) ∧
    (∀ f, exec i { s with emitted := [] } = .fault f → step s = .fault f) ∧
    (∀ r, exec i { s with emitted := [] } = .refused r → step s = .refused r)

/-- 43_decoder R206, 10_state R22: an enabled receive step runs before any decoder step, and the decoder's
registers, its read index and its call outputs hold their values through it. -/
def Obligations.ReceiveStepPreemptsTheDecoder : Prop :=
  ∀ s t : State, s.pins.rst = false → s.pins.fifo = none → s.evtPend = true → s.rxMask = false →
    step s = .next t →
    t.dstate = s.dstate ∧ t.frameId = s.frameId ∧ t.frameSize = s.frameSize ∧ t.arg0 = s.arg0 ∧
      t.arg1 = s.arg1 ∧ t.arg2 = s.arg2 ∧ t.payNeed = s.payNeed ∧ t.payCnt = s.payCnt ∧
      t.remaining = s.remaining ∧ t.decStatus = s.decStatus ∧ t.rxMask = s.rxMask ∧ t.rdIdx = s.rdIdx ∧
      t.getErr = s.getErr ∧ t.getData = s.getData ∧ t.dispValid = s.dispValid ∧ t.dispOp = s.dispOp ∧
      t.dispArg0 = s.dispArg0 ∧ t.dispArg1 = s.dispArg1 ∧ t.dispArg2 = s.dispArg2 ∧
      t.diagValid = s.diagValid ∧ t.diagCode = s.diagCode

/-- 20_memory R71, 60_exceptions R246: while `rx_mask` is set, no `put`, no PendingFrame update and no classifier
update happens, and a pending event stays pending. The count is the one PendingFrame field that the decoder writes
too: the invariant, under which the mask stands only in WAIT_DISP and WAIT_DIAG, keeps DONE out. -/
def Obligations.MaskHoldsTheReceivePath : Prop :=
  ∀ s t : State, s.pins.rst = false → s.pins.fifo = none → s.rxMask = true → step s = .next t →
    t.ring = s.ring ∧ t.wrIdx = s.wrIdx ∧ t.rxIdx = s.rxIdx ∧ t.declSize = s.declSize ∧
      t.addrConsumed = s.addrConsumed ∧ t.bts = s.bts ∧ (s.evtPend = true → t.evtPend = true) ∧
      (BlockInv s → t.completedFrameCount = s.completedFrameCount)

/-- 60_exceptions R258, 43_decoder R203, R204: where the environment keeps its duties (log entry 15), a done pulse
comes only in WAIT_DISP or WAIT_DIAG and ends the one call or report offered, so that none is pulsed twice. -/
def Obligations.DonePulseCompletesWhatIsOffered : Prop :=
  ∀ s t : State, BlockInv s → DutiesKept s → step s = .next t →
    (s.pins.dispDone = true → s.dstate = .waitDisp ∧ t.dispValid = false ∧ t.rxMask = false) ∧
    (s.pins.diagDone = true → s.dstate = .waitDiag ∧ t.diagValid = false ∧ t.rxMask = false)

/-- 60_exceptions R246, 10_state R34: an event that is masked is deferred, not lost. Where the environment keeps its
duties (log entry 15), after any number of masked steps the first unmasked one is a receive step, and it handles
the event as it stood at the start: with the snapshot, the `addr_consumed` and the received byte of then. -/
def Obligations.DeferredEventIsHandledWithItsSnapshot : Prop :=
  ∀ (k : Nat) (s : State) (es : List PortEvent) (t : State),
    BlockInv s → s.evtPend = true → s.rxMask = true → conformingRun (k + 1) s = true → runTrace k s = some (es, t) →
    (∀ j < k, ∀ ds u, runTrace j s = some (ds, u) → u.rxMask = true ∧ u.pins.rst = false) →
    t.rxMask = false → t.pins.rst = false →
    t.pins.rxData = s.pins.rxData ∧
      step t = andThen (exec (decodeKey (mkKey s.addrConsumed s.pins.snap)) (beginStep t)) fun u => .next (endStep u)

/-- 43_decoder R212: a decoder step writes no ring slot and no receive-side register; outside its own registers
it writes only the read index, `fill`, the count, the mask and the result of its `get`. -/
def Obligations.DecoderStepWritesOnlyItsOwn : Prop :=
  ∀ s t : State, s.pins.rst = false → s.pins.fifo = none → receiveEnabled s = false → step s = .next t →
    t.ring = s.ring ∧ t.wrIdx = s.wrIdx ∧ t.putErr = s.putErr ∧ t.rxIdx = s.rxIdx ∧
      t.declSize = s.declSize ∧ t.addrConsumed = s.addrConsumed ∧ t.bts = s.bts ∧ t.rxHold = s.rxHold ∧
      t.params = s.params ∧ t.evtPend = (s.pins.evt || s.evtPend)

/-- 10_state R24, 43_decoder R205: in one step the count rises by one only in a DataWrite step, falls by one only in
the DONE step, and changes otherwise only by `rst`. -/
def Obligations.FrameCountChangesOnlyAtItsTwoPlaces : Prop :=
  ∀ s t : State, s.pins.rst = false → step s = .next t →
    t.completedFrameCount = s.completedFrameCount ∨
    (t.completedFrameCount = s.completedFrameCount + 1 ∧ ∃ bf nak, turn s = .run (.dataWrite bf nak)) ∨
    (t.completedFrameCount = s.completedFrameCount - 1 ∧ turn s = .control .done)

/-- 70_reset_and_hazards R295: a receive step never disturbs the bytes the decoder will read: what was unread stays
in front, in order. -/
def Obligations.ReceivingKeepsUnreadBytes : Prop :=
  ∀ s t : State, BlockInv s → s.pins.rst = false → s.pins.fifo = none → s.evtPend = true → s.rxMask = false →
    step s = .next t → unread s <+: unread t

/-- 70_reset_and_hazards R280, 10_state R40: a step with `rst` high gives every register its reset value and leaves
the ring RAM; `evt_i` is ignored. -/
def Obligations.ResetStepGivesResetValues : Prop :=
  ∀ s : State, s.pins.rst = true →
    ∃ t, step s = .next t ∧ t.ring = s.ring ∧ t.params = s.params ∧
      t.rdIdx = 0 ∧ t.wrIdx = 0 ∧ t.fill = .empty ∧ t.addrConsumed = false ∧ t.bts = .awaitingAddress ∧
      t.evtPend = false ∧ t.rxIdx = 0 ∧ t.declSize = 0 ∧ t.completedFrameCount = 0 ∧ t.dstate = .idle ∧
      t.frameId = 0 ∧ t.frameSize = 0 ∧ t.arg0 = 0 ∧ t.arg1 = 0 ∧ t.arg2 = 0 ∧ t.payNeed = 0 ∧
      t.payCnt = 0 ∧ t.remaining = 0 ∧ t.decStatus = .ok ∧ t.rxMask = false ∧ t.emitted = [] ∧
      t.dispValid = false ∧ t.diagValid = false ∧ txAvailO t = false

/-- 60_exceptions R249: an `evt_i` pulse in the very step that handles an event leaves `evt_pend` at 1. -/
def Obligations.EventPulseWinsOverTheClear : Prop :=
  ∀ s t : State, s.pins.rst = false → s.pins.evt = true → step s = .next t → t.evtPend = true

/-- 10_state R41, 00_scope R12: the machine right after reset is quiescent, and without an event it stays as it is. -/
def Obligations.ResetIsQuiescent : Prop :=
  Quiescent State.reset ∧ step State.reset = .next State.reset

/-- 00_scope R7: no step changes a parameter. -/
def Obligations.ParametersNeverChange : Prop :=
  ∀ s t : State, step s = .next t → t.params = s.params

/-- 43_decoder R208: `put_string` is never issued and `disp_op_o` never has the value 5. A call is offered by CALL steps
only, and it is the call of the header's command: put_char for PutString. -/
def Obligations.PutStringCallIsNeverOffered : Prop :=
  ∀ s t : State, step s = .next t →
    dispOpO t ≠ 5 ∧
    ∀ op a b c, PortEvent.disp op a b c ∈ t.emitted →
      s.dstate = .call ∧ op = callOp (decodeHeader (headerOf s)) ∧
        (dispOpCode op = 1 ∨ dispOpCode op = 2 ∨ dispOpCode op = 3 ∨ dispOpCode op = 4 ∨ dispOpCode op = 6)

/-- The machine right after reset meets the invariant (10_state R40, 40_fifo R134). -/
def Obligations.ResetMeetsTheInvariant : Prop := BlockInv State.reset

/-- Every step keeps the invariant of the block: the FIFO's (40_fifo R134), the receive path's (41_classifier R157) and
the decoder's (43_decoder R203, R204). -/
def Obligations.EveryStepKeepsTheInvariant : Prop :=
  ∀ s t : State, BlockInv s → step s = .next t → BlockInv t

/-- 60_exceptions R244, 00_scope R12: no error is fatal and the block never halts: from every state that meets the
invariant, under every input, a step answers a next state. -/
def Obligations.NoStepEverStops : Prop :=
  ∀ s : State, BlockInv s → ∃ t, step s = .next t

/-- Where an instruction stops, by name: an index outside the ring (20_memory R62, log entry 13), a CALL step under a
header that makes no call, a fourth argument (log entry 14). The model's own stops; NoStepEverStops keeps them out
of every run. -/
def Obligations.UnreachableStatesStopByName : Prop :=
  ∀ (s : State) (id size : Byte) (bf nak : Bool) (i : Instr),
    (s.fill ≠ .full → s.params.n ≤ s.wrIdx →
      exec (.put false) s = .fault .noSuchSlot ∧ exec (.dataWrite bf nak) s = .fault .noSuchSlot) ∧
    (s.fill ≠ .empty → s.params.n ≤ s.rdIdx → exec .get s = .fault .noSuchSlot) ∧
    (s.fill = .partial_ → s.params.n ≤ s.wrIdx ∨ s.params.n ≤ s.rdIdx →
      exec (.put true) s = .fault .noSuchSlot) ∧
    (s.dstate = .call →
      i = .putStringShort size ∨ i = .clearDisplayWrongSize size ∨ i = .returnHomeWrongSize size ∨
        i = .setCursorWrongSize size ∨ i = .putCharWrongSize size ∨ i = .controlDisplayWrongSize size ∨
        i = .unknown id size →
      exec i s = .refused .noDisplayCall) ∧
    (s.dstate = .getPayload → s.fill ≠ .empty → s.rdIdx < s.params.n → s.payCnt = 3 →
      i = .setCursor ∨ i = .putChar ∨ i = .controlDisplay ∨ i = .putString size →
      exec i s = .refused .noArgRegister)

/-! ### Encoding -/

/-- 30_encoding R98 to R101: the codes the ports carry. -/
def Obligations.PortsCarryTheirCodes : Prop :=
  [EventClass.idle, .addressWrite, .dataWrite, .addressRead, .dataRead].map classCode = [0, 1, 2, 3, 4] ∧
  [Fill.empty, .partial_, .full].map fillCode = [0, 1, 2] ∧
  [Bts.awaitingAddress, .inAddressPhase, .inDataPhase].map btsCode = [0, 1, 2] ∧
  [DState.idle, .getId, .getSize, .dispatch, .getPayload, .call, .waitDisp, .report, .waitDiag, .done].map
    dstateCode = [0, 1, 2, 3, 4, 5, 6, 7, 8, 9] ∧
  [DispOp.none, .clear, .home, .setCursor, .putChar, .setControl].map dispOpCode = [0, 1, 2, 3, 4, 6] ∧
  [ErrorCode.ok, .bufferEmpty, .malformedFrame, .bufferFull].map errorCode = [0, 1, 2, 3] ∧
  [DecStatus.ok, .bufferEmpty, .malformedFrame].map decStatusCode = [0, 1, 2]

/-- Decoding the encoding of a well-formed instruction gives it back, with nothing left over. -/
def Obligations.DecodeInvertsEncode : Prop :=
  ∀ i : Instr, i.wf = true → decode i.format (encode i) = .ok (i, [])

/-- 30_encoding R95: every 16-bit header decodes to exactly one outcome: a well-formed frame instruction, whose
encoding is the header's two bytes; and likewise every key and every strobe word. -/
def Obligations.EveryWordHasOneMeaning : Prop :=
  (∀ id size : Byte, (decodeHeader (mkHdr id size)).wf = true ∧
    (decodeHeader (mkHdr id size)).format = .frameHdr ∧ encode (decodeHeader (mkHdr id size)) = [id, size]) ∧
  (∀ k : Key, (decodeKey k).wf = true ∧ (decodeKey k).format = .snapshotKey ∧ encode (decodeKey k) = [keyByte k]) ∧
  (∀ p : PortWord, (decodePort p).wf = true ∧ (decodePort p).format = .fifoPort ∧
    encode (decodePort p) = [p.zeroExtend 8])

/-- Words written out from 30_encoding R92, R97, R103 decode to their instructions. -/
def Obligations.WrittenOutWordsDecode : Prop :=
  decode .frameHdr [0x03, 0x04] = .ok (.setCursor, []) ∧
  decode .frameHdr [0x05, 0x05] = .ok (.putString 5, []) ∧
  decode .frameHdr [0x01, 0x05] = .ok (.clearDisplayWrongSize 5, []) ∧
  decode .frameHdr [0xAA, 0xBB] = .ok (.unknown 0xAA 0xBB, []) ∧
  decode .snapshotKey [0b111010] = .ok (.dataWrite true false, []) ∧
  decode .snapshotKey [0b011010] = .ok (.idle 0b011010, []) ∧
  decode .fifoPort [0b11] = .ok (.put true, [])
end

