-- ==== Sys2Proof/Laws/Decode.lean ====
section
/-! SUPPORT. The header word in terms of its two bytes, and the FRAME_HDR rows read that way. -/

namespace Sys2Proof

/-- The header's bits: the low byte is the size, the high one the identifier. -/
theorem getLsbD_mkHdr (id size : Byte) (i : Nat) :
    (mkHdr id size).getLsbD i = if i < 8 then size.getLsbD i else id.getLsbD (i - 8) := by
  unfold mkHdr
  rw [BitVec.getLsbD_append]

@[simp] theorem hdrId_mkHdr (id size : Byte) : hdrId (mkHdr id size) = id := by
  apply BitVec.eq_of_getLsbD_eq
  intro i hi
  simp [hdrId, getLsbD_mkHdr, hi]

@[simp] theorem hdrSize_mkHdr (id size : Byte) : hdrSize (mkHdr id size) = size := by
  apply BitVec.eq_of_getLsbD_eq
  intro i hi
  simp [hdrSize, getLsbD_mkHdr, hi]

/-- A header is its two bytes. -/
theorem mkHdr_parts (h : Hdr) : mkHdr (hdrId h) (hdrSize h) = h := by
  apply BitVec.eq_of_getLsbD_eq
  intro i hi
  rw [getLsbD_mkHdr]
  split
  · simp [hdrSize, *]
  · rw [hdrId, BitVec.getLsbD_extractLsb']
    simp [show i - 8 < 8 by omega, show 8 + (i - 8) = i by omega]

/-- Two headers are equal byte by byte. -/
theorem mkHdr_inj (a b c d : Byte) : mkHdr a b = mkHdr c d ↔ a = c ∧ b = d := by
  constructor
  · intro h
    exact ⟨by simpa using congrArg hdrId h, by simpa using congrArg hdrSize h⟩
  · rintro ⟨rfl, rfl⟩; rfl

/-- Masking works byte by byte. -/
theorem mkHdr_and (a b c d : Byte) : mkHdr a b &&& mkHdr c d = mkHdr (a &&& c) (b &&& d) := by
  apply BitVec.eq_of_getLsbD_eq
  intro i hi
  simp only [BitVec.getLsbD_and, getLsbD_mkHdr]
  split <;> rfl

/-- A row is hit byte by byte. -/
theorem rowHit_mkHdr (m1 m2 v1 v2 id size : Byte) :
    rowHit (mkHdr m1 m2) (mkHdr v1 v2) (mkHdr id size) = (rowHit m1 v1 id && rowHit m2 v2 size) := by
  unfold rowHit
  rw [mkHdr_and, Bool.eq_iff_iff]
  simp [mkHdr_inj]

theorem byte_and_ff (x : Byte) : x &&& 0xFF#8 = x := by revert x; decide
theorem byte_and_fe (x : Byte) : (x &&& 0xFE#8 == 0#8) = decide (x.toNat < 2) := by revert x; decide

/-- The header rows in terms of the two bytes (30_encoding R92, R95). -/
theorem decodeHeader_eq (id size : Byte) : decodeHeader (mkHdr id size) =
    if id = 1#8 then (if size = 2#8 then .clearDisplay else .clearDisplayWrongSize size)
    else if id = 2#8 then (if size = 2#8 then .returnHome else .returnHomeWrongSize size)
    else if id = 3#8 then (if size = 4#8 then .setCursor else .setCursorWrongSize size)
    else if id = 4#8 then (if size = 3#8 then .putChar else .putCharWrongSize size)
    else if id = 5#8 then (if size.toNat < 2 then .putStringShort size else .putString size)
    else if id = 6#8 then (if size = 5#8 then .controlDisplay else .controlDisplayWrongSize size)
    else .unknown id size := by
  have hx : ∀ v1 v2 : Byte, rowHit 0xFFFF#16 (mkHdr v1 v2) (mkHdr id size) = (id == v1 && size == v2) := by
    intro v1 v2
    rw [show (0xFFFF#16 : Hdr) = mkHdr 0xFF#8 0xFF#8 by decide, rowHit_mkHdr]
    simp [rowHit, byte_and_ff]
  have hy : ∀ v1 : Byte, rowHit 0xFF00#16 (mkHdr v1 0#8) (mkHdr id size) = (id == v1) := by
    intro v1
    rw [show (0xFF00#16 : Hdr) = mkHdr 0xFF#8 0#8 by decide, rowHit_mkHdr]
    simp [rowHit, byte_and_ff]
  have hz : rowHit 0xFFFE#16 (mkHdr 5#8 0#8) (mkHdr id size) = (id == 5#8 && decide (size.toNat < 2)) := by
    rw [show (0xFFFE#16 : Hdr) = mkHdr 0xFF#8 0xFE#8 by decide, rowHit_mkHdr, ← byte_and_fe]
    simp [rowHit, byte_and_ff]
  unfold decodeHeader
  rw [show (0x0102#16 : Hdr) = mkHdr 1#8 2#8 by decide, show (0x0202#16 : Hdr) = mkHdr 2#8 2#8 by decide,
    show (0x0304#16 : Hdr) = mkHdr 3#8 4#8 by decide, show (0x0403#16 : Hdr) = mkHdr 4#8 3#8 by decide,
    show (0x0605#16 : Hdr) = mkHdr 6#8 5#8 by decide, show (0x0500#16 : Hdr) = mkHdr 5#8 0#8 by decide,
    show (0x0100#16 : Hdr) = mkHdr 1#8 0#8 by decide, show (0x0200#16 : Hdr) = mkHdr 2#8 0#8 by decide,
    show (0x0300#16 : Hdr) = mkHdr 3#8 0#8 by decide, show (0x0400#16 : Hdr) = mkHdr 4#8 0#8 by decide,
    show (0x0600#16 : Hdr) = mkHdr 6#8 0#8 by decide]
  simp only [hx, hy, hz, hdrId_mkHdr, hdrSize_mkHdr, Bool.and_eq_true, beq_iff_eq, decide_eq_true_eq]
  by_cases h1 : id = 1#8
  · subst h1; simp
  by_cases h2 : id = 2#8
  · subst h2; simp
  by_cases h3 : id = 3#8
  · subst h3; simp
  by_cases h4 : id = 4#8
  · subst h4; simp
  by_cases h5 : id = 5#8
  · subst h5; simp
  by_cases h6 : id = 6#8
  · subst h6; simp
  simp only [h1, h2, h3, h4, h5, h6, false_and, if_false]

end Sys2Proof
end

