-- ==== Sys2Proof/Laws/Environment.lean ====
section
/-! SUPPORT. The runs of Machine/Environment.lean, one step at a time. -/

namespace Sys2Proof.Machine

@[simp] theorem conformingRun_zero (s : State) : conformingRun 0 s = true := rfl

/-- A conforming run is a conforming step and a conforming run from each next state. -/
theorem conformingRun_succ (k : Nat) (s : State) :
    conformingRun (k + 1) s = true ↔
      DutiesKept s ∧ ∀ t, step s = .next t → InputsHeld s t ∧ conformingRun k t = true := by
  rw [conformingRun, Bool.and_eq_true, decide_eq_true_eq]
  cases step s <;>
    simp only [Bool.and_eq_true, decide_eq_true_eq, Host.Outcome.next.injEq, forall_eq', reduceCtorEq, false_implies,
      implies_true]

@[simp] theorem decodeRun_zero (s : State) : decodeRun 0 s = true := rfl

/-- A DECODE run is a step of the decoder alone and a DECODE run from each next state. -/
theorem decodeRun_succ (k : Nat) (s : State) :
    decodeRun (k + 1) s = true ↔ DecodesAlone s ∧ ∀ t, step s = .next t → decodeRun k t = true := by
  rw [decodeRun, Bool.and_eq_true, decide_eq_true_eq]
  cases step s <;> simp

end Sys2Proof.Machine
end

