-- ==== Sys2Proof/Laws/Memory.lean ====
section
/-! SUPPORT. The ring RAM: a read after a write, what a write leaves alone, and that it keeps the
canonical form and the address space. -/

namespace Sys2Proof.Machine

@[simp] theorem Memory.lookup_write_same (m : Memory) (a : Nat) (b : Byte) :
    Memory.lookup (Memory.write m a b) a = some b := by
  induction m with
  | nil => simp [Memory.write, Memory.lookup]
  | cons c m ih =>
    obtain ⟨x, v⟩ := c
    simp only [Memory.write]
    split
    · simp [Memory.lookup]
    · split
      · simp [Memory.lookup]
      · rename_i _ h
        simp [Memory.lookup, h, ih]

theorem Memory.lookup_write_other (m : Memory) (a k : Nat) (b : Byte) (h : k ≠ a) :
    Memory.lookup (Memory.write m a b) k = Memory.lookup m k := by
  induction m with
  | nil => simp [Memory.write, Memory.lookup, h]
  | cons c m ih =>
    obtain ⟨x, v⟩ := c
    simp only [Memory.write]
    split
    · simp [Memory.lookup, h]
    · split
      · rename_i _ hx
        subst hx
        simp [Memory.lookup, h]
      · simp [Memory.lookup, ih]

@[simp] theorem Memory.read_write_same (m : Memory) (a : Nat) (b : Byte) :
    Memory.read (Memory.write m a b) a = b := by
  simp [Memory.read]

theorem Memory.read_write_other (m : Memory) (a k : Nat) (b : Byte) (h : k ≠ a) :
    Memory.read (Memory.write m a b) k = Memory.read m k := by
  simp [Memory.read, Memory.lookup_write_other m a k b h]

theorem Memory.lookup_write_isSome (m : Memory) (a k : Nat) (b : Byte)
    (h : (Memory.lookup m k).isSome = true) : (Memory.lookup (Memory.write m a b) k).isSome = true := by
  by_cases hk : k = a
  · simp [hk]
  · rw [Memory.lookup_write_other m a k b hk, h]

/-- The canonical form of a list with one more cell in front. -/
theorem Memory.wf_cons (c : Host.Cell) (m : Memory) :
    Memory.wf (c :: m) = true ↔ (∀ d ∈ m.head?, c.1 < d.1) ∧ Memory.wf m = true := by
  cases m <;> simp [Memory.wf]

theorem Memory.head_write (m : Memory) (a : Nat) (b : Byte) :
    ∀ d ∈ (Memory.write m a b).head?, d.1 = a ∨ ∃ c ∈ m.head?, d.1 = c.1 := by
  cases m with
  | nil => simp [Memory.write]
  | cons c m =>
    obtain ⟨x, v⟩ := c
    simp only [Memory.write]
    split
    · simp
    · split <;> simp_all

/-- A write keeps the canonical form. -/
theorem Memory.wf_write (m : Memory) (a : Nat) (b : Byte) (h : Memory.wf m = true) :
    Memory.wf (Memory.write m a b) = true := by
  induction m with
  | nil => simp [Memory.write, Memory.wf]
  | cons c m ih =>
    obtain ⟨x, v⟩ := c
    simp only [Memory.write]
    rw [Memory.wf_cons] at h
    split
    · rename_i hlt
      rw [Memory.wf_cons, Memory.wf_cons]
      exact ⟨by simpa using hlt, h⟩
    · split
      · rename_i _ heq
        subst heq
        rw [Memory.wf_cons]
        exact h
      · rename_i hge hne
        rw [Memory.wf_cons]
        refine ⟨fun d hd => ?_, ih h.2⟩
        rcases Memory.head_write m a b d hd with hda | ⟨c, hc, hdc⟩
        · simp only [hda]; omega
        · simpa [hdc] using h.1 c hc

/-- A write at an existing slot stays inside the address space. -/
theorem Memory.write_bounded (m : Memory) (a n : Nat) (b : Byte) (ha : a < n) (h : ∀ c ∈ m, c.1 < n) :
    ∀ c ∈ Memory.write m a b, c.1 < n := by
  induction m with
  | nil => simpa [Memory.write] using ha
  | cons c m ih =>
    obtain ⟨x, v⟩ := c
    have hm : ∀ c ∈ m, c.1 < n := fun c hc => h c (List.mem_cons_of_mem _ hc)
    have hx : x < n := h (x, v) (List.mem_cons_self ..)
    simp only [Memory.write]
    split
    · intro d hd
      rcases List.mem_cons.1 hd with rfl | hd
      · exact ha
      · exact h d hd
    · split
      · intro d hd
        rcases List.mem_cons.1 hd with rfl | hd
        · exact ha
        · exact hm d hd
      · intro d hd
        rcases List.mem_cons.1 hd with rfl | hd
        · exact hx
        · exact ih hm d hd

/-- The memory right after reset has the canonical form. -/
theorem Memory.wf_reset : Memory.wf State.reset.ring = true := rfl

end Sys2Proof.Machine
end

