-- ==== Sys2Proof/Laws/State.lean ====
section
/-! SUPPORT. What each register update leaves in each field: one lemma per field per update. -/

namespace Sys2Proof.Machine

/-! ### `emit` -/

@[simp] theorem emit_params (e : PortEvent) (s : State) : (emit e s).params = s.params := rfl
@[simp] theorem emit_ring (e : PortEvent) (s : State) : (emit e s).ring = s.ring := rfl
@[simp] theorem emit_rdIdx (e : PortEvent) (s : State) : (emit e s).rdIdx = s.rdIdx := rfl
@[simp] theorem emit_wrIdx (e : PortEvent) (s : State) : (emit e s).wrIdx = s.wrIdx := rfl
@[simp] theorem emit_fill (e : PortEvent) (s : State) : (emit e s).fill = s.fill := rfl
@[simp] theorem emit_putErr (e : PortEvent) (s : State) : (emit e s).putErr = s.putErr := rfl
@[simp] theorem emit_getErr (e : PortEvent) (s : State) : (emit e s).getErr = s.getErr := rfl
@[simp] theorem emit_getData (e : PortEvent) (s : State) : (emit e s).getData = s.getData := rfl
@[simp] theorem emit_addrConsumed (e : PortEvent) (s : State) : (emit e s).addrConsumed = s.addrConsumed := rfl
@[simp] theorem emit_bts (e : PortEvent) (s : State) : (emit e s).bts = s.bts := rfl
@[simp] theorem emit_evtPend (e : PortEvent) (s : State) : (emit e s).evtPend = s.evtPend := rfl
@[simp] theorem emit_rxHold (e : PortEvent) (s : State) : (emit e s).rxHold = s.rxHold := rfl
@[simp] theorem emit_rxIdx (e : PortEvent) (s : State) : (emit e s).rxIdx = s.rxIdx := rfl
@[simp] theorem emit_declSize (e : PortEvent) (s : State) : (emit e s).declSize = s.declSize := rfl
@[simp] theorem emit_completedFrameCount (e : PortEvent) (s : State) : (emit e s).completedFrameCount = s.completedFrameCount := rfl
@[simp] theorem emit_dstate (e : PortEvent) (s : State) : (emit e s).dstate = s.dstate := rfl
@[simp] theorem emit_frameId (e : PortEvent) (s : State) : (emit e s).frameId = s.frameId := rfl
@[simp] theorem emit_frameSize (e : PortEvent) (s : State) : (emit e s).frameSize = s.frameSize := rfl
@[simp] theorem emit_arg0 (e : PortEvent) (s : State) : (emit e s).arg0 = s.arg0 := rfl
@[simp] theorem emit_arg1 (e : PortEvent) (s : State) : (emit e s).arg1 = s.arg1 := rfl
@[simp] theorem emit_arg2 (e : PortEvent) (s : State) : (emit e s).arg2 = s.arg2 := rfl
@[simp] theorem emit_payNeed (e : PortEvent) (s : State) : (emit e s).payNeed = s.payNeed := rfl
@[simp] theorem emit_payCnt (e : PortEvent) (s : State) : (emit e s).payCnt = s.payCnt := rfl
@[simp] theorem emit_remaining (e : PortEvent) (s : State) : (emit e s).remaining = s.remaining := rfl
@[simp] theorem emit_decStatus (e : PortEvent) (s : State) : (emit e s).decStatus = s.decStatus := rfl
@[simp] theorem emit_rxMask (e : PortEvent) (s : State) : (emit e s).rxMask = s.rxMask := rfl
@[simp] theorem emit_dispValid (e : PortEvent) (s : State) : (emit e s).dispValid = s.dispValid := rfl
@[simp] theorem emit_dispOp (e : PortEvent) (s : State) : (emit e s).dispOp = s.dispOp := rfl
@[simp] theorem emit_dispArg0 (e : PortEvent) (s : State) : (emit e s).dispArg0 = s.dispArg0 := rfl
@[simp] theorem emit_dispArg1 (e : PortEvent) (s : State) : (emit e s).dispArg1 = s.dispArg1 := rfl
@[simp] theorem emit_dispArg2 (e : PortEvent) (s : State) : (emit e s).dispArg2 = s.dispArg2 := rfl
@[simp] theorem emit_diagValid (e : PortEvent) (s : State) : (emit e s).diagValid = s.diagValid := rfl
@[simp] theorem emit_diagCode (e : PortEvent) (s : State) : (emit e s).diagCode = s.diagCode := rfl
@[simp] theorem emit_emitted (e : PortEvent) (s : State) : (emit e s).emitted = s.emitted ++ [e] := rfl
@[simp] theorem emit_pins (e : PortEvent) (s : State) : (emit e s).pins = s.pins := rfl
@[simp] theorem emit_upcoming (e : PortEvent) (s : State) : (emit e s).upcoming = s.upcoming := rfl
@[simp] theorem emit_freeCount (e : PortEvent) (s : State) : (emit e s).freeCount = s.freeCount := rfl

/-! ### `setMask` -/

@[simp] theorem setMask_params (b : Bool) (s : State) : (setMask b s).params = s.params := rfl
@[simp] theorem setMask_ring (b : Bool) (s : State) : (setMask b s).ring = s.ring := rfl
@[simp] theorem setMask_rdIdx (b : Bool) (s : State) : (setMask b s).rdIdx = s.rdIdx := rfl
@[simp] theorem setMask_wrIdx (b : Bool) (s : State) : (setMask b s).wrIdx = s.wrIdx := rfl
@[simp] theorem setMask_fill (b : Bool) (s : State) : (setMask b s).fill = s.fill := rfl
@[simp] theorem setMask_putErr (b : Bool) (s : State) : (setMask b s).putErr = s.putErr := rfl
@[simp] theorem setMask_getErr (b : Bool) (s : State) : (setMask b s).getErr = s.getErr := rfl
@[simp] theorem setMask_getData (b : Bool) (s : State) : (setMask b s).getData = s.getData := rfl
@[simp] theorem setMask_addrConsumed (b : Bool) (s : State) : (setMask b s).addrConsumed = s.addrConsumed := rfl
@[simp] theorem setMask_bts (b : Bool) (s : State) : (setMask b s).bts = s.bts := rfl
@[simp] theorem setMask_evtPend (b : Bool) (s : State) : (setMask b s).evtPend = s.evtPend := rfl
@[simp] theorem setMask_rxHold (b : Bool) (s : State) : (setMask b s).rxHold = s.rxHold := rfl
@[simp] theorem setMask_rxIdx (b : Bool) (s : State) : (setMask b s).rxIdx = s.rxIdx := rfl
@[simp] theorem setMask_declSize (b : Bool) (s : State) : (setMask b s).declSize = s.declSize := rfl
@[simp] theorem setMask_completedFrameCount (b : Bool) (s : State) : (setMask b s).completedFrameCount = s.completedFrameCount := rfl
@[simp] theorem setMask_dstate (b : Bool) (s : State) : (setMask b s).dstate = s.dstate := rfl
@[simp] theorem setMask_frameId (b : Bool) (s : State) : (setMask b s).frameId = s.frameId := rfl
@[simp] theorem setMask_frameSize (b : Bool) (s : State) : (setMask b s).frameSize = s.frameSize := rfl
@[simp] theorem setMask_arg0 (b : Bool) (s : State) : (setMask b s).arg0 = s.arg0 := rfl
@[simp] theorem setMask_arg1 (b : Bool) (s : State) : (setMask b s).arg1 = s.arg1 := rfl
@[simp] theorem setMask_arg2 (b : Bool) (s : State) : (setMask b s).arg2 = s.arg2 := rfl
@[simp] theorem setMask_payNeed (b : Bool) (s : State) : (setMask b s).payNeed = s.payNeed := rfl
@[simp] theorem setMask_payCnt (b : Bool) (s : State) : (setMask b s).payCnt = s.payCnt := rfl
@[simp] theorem setMask_remaining (b : Bool) (s : State) : (setMask b s).remaining = s.remaining := rfl
@[simp] theorem setMask_decStatus (b : Bool) (s : State) : (setMask b s).decStatus = s.decStatus := rfl
@[simp] theorem setMask_rxMask (b : Bool) (s : State) : (setMask b s).rxMask = b := rfl
@[simp] theorem setMask_dispValid (b : Bool) (s : State) : (setMask b s).dispValid = s.dispValid := rfl
@[simp] theorem setMask_dispOp (b : Bool) (s : State) : (setMask b s).dispOp = s.dispOp := rfl
@[simp] theorem setMask_dispArg0 (b : Bool) (s : State) : (setMask b s).dispArg0 = s.dispArg0 := rfl
@[simp] theorem setMask_dispArg1 (b : Bool) (s : State) : (setMask b s).dispArg1 = s.dispArg1 := rfl
@[simp] theorem setMask_dispArg2 (b : Bool) (s : State) : (setMask b s).dispArg2 = s.dispArg2 := rfl
@[simp] theorem setMask_diagValid (b : Bool) (s : State) : (setMask b s).diagValid = s.diagValid := rfl
@[simp] theorem setMask_diagCode (b : Bool) (s : State) : (setMask b s).diagCode = s.diagCode := rfl
@[simp] theorem setMask_emitted (b : Bool) (s : State) : (setMask b s).emitted = s.emitted := rfl
@[simp] theorem setMask_pins (b : Bool) (s : State) : (setMask b s).pins = s.pins := rfl
@[simp] theorem setMask_upcoming (b : Bool) (s : State) : (setMask b s).upcoming = s.upcoming := rfl
@[simp] theorem setMask_freeCount (b : Bool) (s : State) : (setMask b s).freeCount = s.freeCount := rfl

/-! ### `goto` -/

@[simp] theorem goto_params (d : DState) (s : State) : (goto d s).params = s.params := rfl
@[simp] theorem goto_ring (d : DState) (s : State) : (goto d s).ring = s.ring := rfl
@[simp] theorem goto_rdIdx (d : DState) (s : State) : (goto d s).rdIdx = s.rdIdx := rfl
@[simp] theorem goto_wrIdx (d : DState) (s : State) : (goto d s).wrIdx = s.wrIdx := rfl
@[simp] theorem goto_fill (d : DState) (s : State) : (goto d s).fill = s.fill := rfl
@[simp] theorem goto_putErr (d : DState) (s : State) : (goto d s).putErr = s.putErr := rfl
@[simp] theorem goto_getErr (d : DState) (s : State) : (goto d s).getErr = s.getErr := rfl
@[simp] theorem goto_getData (d : DState) (s : State) : (goto d s).getData = s.getData := rfl
@[simp] theorem goto_addrConsumed (d : DState) (s : State) : (goto d s).addrConsumed = s.addrConsumed := rfl
@[simp] theorem goto_bts (d : DState) (s : State) : (goto d s).bts = s.bts := rfl
@[simp] theorem goto_evtPend (d : DState) (s : State) : (goto d s).evtPend = s.evtPend := rfl
@[simp] theorem goto_rxHold (d : DState) (s : State) : (goto d s).rxHold = s.rxHold := rfl
@[simp] theorem goto_rxIdx (d : DState) (s : State) : (goto d s).rxIdx = s.rxIdx := rfl
@[simp] theorem goto_declSize (d : DState) (s : State) : (goto d s).declSize = s.declSize := rfl
@[simp] theorem goto_completedFrameCount (d : DState) (s : State) : (goto d s).completedFrameCount = s.completedFrameCount := rfl
@[simp] theorem goto_dstate (d : DState) (s : State) : (goto d s).dstate = d := rfl
@[simp] theorem goto_frameId (d : DState) (s : State) : (goto d s).frameId = s.frameId := rfl
@[simp] theorem goto_frameSize (d : DState) (s : State) : (goto d s).frameSize = s.frameSize := rfl
@[simp] theorem goto_arg0 (d : DState) (s : State) : (goto d s).arg0 = s.arg0 := rfl
@[simp] theorem goto_arg1 (d : DState) (s : State) : (goto d s).arg1 = s.arg1 := rfl
@[simp] theorem goto_arg2 (d : DState) (s : State) : (goto d s).arg2 = s.arg2 := rfl
@[simp] theorem goto_payNeed (d : DState) (s : State) : (goto d s).payNeed = s.payNeed := rfl
@[simp] theorem goto_payCnt (d : DState) (s : State) : (goto d s).payCnt = s.payCnt := rfl
@[simp] theorem goto_remaining (d : DState) (s : State) : (goto d s).remaining = s.remaining := rfl
@[simp] theorem goto_decStatus (d : DState) (s : State) : (goto d s).decStatus = s.decStatus := rfl
@[simp] theorem goto_rxMask (d : DState) (s : State) : (goto d s).rxMask = s.rxMask := rfl
@[simp] theorem goto_dispValid (d : DState) (s : State) : (goto d s).dispValid = s.dispValid := rfl
@[simp] theorem goto_dispOp (d : DState) (s : State) : (goto d s).dispOp = s.dispOp := rfl
@[simp] theorem goto_dispArg0 (d : DState) (s : State) : (goto d s).dispArg0 = s.dispArg0 := rfl
@[simp] theorem goto_dispArg1 (d : DState) (s : State) : (goto d s).dispArg1 = s.dispArg1 := rfl
@[simp] theorem goto_dispArg2 (d : DState) (s : State) : (goto d s).dispArg2 = s.dispArg2 := rfl
@[simp] theorem goto_diagValid (d : DState) (s : State) : (goto d s).diagValid = s.diagValid := rfl
@[simp] theorem goto_diagCode (d : DState) (s : State) : (goto d s).diagCode = s.diagCode := rfl
@[simp] theorem goto_emitted (d : DState) (s : State) : (goto d s).emitted = s.emitted := rfl
@[simp] theorem goto_pins (d : DState) (s : State) : (goto d s).pins = s.pins := rfl
@[simp] theorem goto_upcoming (d : DState) (s : State) : (goto d s).upcoming = s.upcoming := rfl
@[simp] theorem goto_freeCount (d : DState) (s : State) : (goto d s).freeCount = s.freeCount := rfl

/-! ### `finishCycle` -/

@[simp] theorem finishCycle_params (st : DecStatus) (s : State) : (finishCycle st s).params = s.params := rfl
@[simp] theorem finishCycle_ring (st : DecStatus) (s : State) : (finishCycle st s).ring = s.ring := rfl
@[simp] theorem finishCycle_rdIdx (st : DecStatus) (s : State) : (finishCycle st s).rdIdx = s.rdIdx := rfl
@[simp] theorem finishCycle_wrIdx (st : DecStatus) (s : State) : (finishCycle st s).wrIdx = s.wrIdx := rfl
@[simp] theorem finishCycle_fill (st : DecStatus) (s : State) : (finishCycle st s).fill = s.fill := rfl
@[simp] theorem finishCycle_putErr (st : DecStatus) (s : State) : (finishCycle st s).putErr = s.putErr := rfl
@[simp] theorem finishCycle_getErr (st : DecStatus) (s : State) : (finishCycle st s).getErr = s.getErr := rfl
@[simp] theorem finishCycle_getData (st : DecStatus) (s : State) : (finishCycle st s).getData = s.getData := rfl
@[simp] theorem finishCycle_addrConsumed (st : DecStatus) (s : State) : (finishCycle st s).addrConsumed = s.addrConsumed := rfl
@[simp] theorem finishCycle_bts (st : DecStatus) (s : State) : (finishCycle st s).bts = s.bts := rfl
@[simp] theorem finishCycle_evtPend (st : DecStatus) (s : State) : (finishCycle st s).evtPend = s.evtPend := rfl
@[simp] theorem finishCycle_rxHold (st : DecStatus) (s : State) : (finishCycle st s).rxHold = s.rxHold := rfl
@[simp] theorem finishCycle_rxIdx (st : DecStatus) (s : State) : (finishCycle st s).rxIdx = s.rxIdx := rfl
@[simp] theorem finishCycle_declSize (st : DecStatus) (s : State) : (finishCycle st s).declSize = s.declSize := rfl
@[simp] theorem finishCycle_completedFrameCount (st : DecStatus) (s : State) : (finishCycle st s).completedFrameCount = s.completedFrameCount := rfl
@[simp] theorem finishCycle_dstate (st : DecStatus) (s : State) : (finishCycle st s).dstate = .done := rfl
@[simp] theorem finishCycle_frameId (st : DecStatus) (s : State) : (finishCycle st s).frameId = s.frameId := rfl
@[simp] theorem finishCycle_frameSize (st : DecStatus) (s : State) : (finishCycle st s).frameSize = s.frameSize := rfl
@[simp] theorem finishCycle_arg0 (st : DecStatus) (s : State) : (finishCycle st s).arg0 = s.arg0 := rfl
@[simp] theorem finishCycle_arg1 (st : DecStatus) (s : State) : (finishCycle st s).arg1 = s.arg1 := rfl
@[simp] theorem finishCycle_arg2 (st : DecStatus) (s : State) : (finishCycle st s).arg2 = s.arg2 := rfl
@[simp] theorem finishCycle_payNeed (st : DecStatus) (s : State) : (finishCycle st s).payNeed = s.payNeed := rfl
@[simp] theorem finishCycle_payCnt (st : DecStatus) (s : State) : (finishCycle st s).payCnt = s.payCnt := rfl
@[simp] theorem finishCycle_remaining (st : DecStatus) (s : State) : (finishCycle st s).remaining = s.remaining := rfl
@[simp] theorem finishCycle_decStatus (st : DecStatus) (s : State) : (finishCycle st s).decStatus = st := rfl
@[simp] theorem finishCycle_rxMask (st : DecStatus) (s : State) : (finishCycle st s).rxMask = s.rxMask := rfl
@[simp] theorem finishCycle_dispValid (st : DecStatus) (s : State) : (finishCycle st s).dispValid = s.dispValid := rfl
@[simp] theorem finishCycle_dispOp (st : DecStatus) (s : State) : (finishCycle st s).dispOp = s.dispOp := rfl
@[simp] theorem finishCycle_dispArg0 (st : DecStatus) (s : State) : (finishCycle st s).dispArg0 = s.dispArg0 := rfl
@[simp] theorem finishCycle_dispArg1 (st : DecStatus) (s : State) : (finishCycle st s).dispArg1 = s.dispArg1 := rfl
@[simp] theorem finishCycle_dispArg2 (st : DecStatus) (s : State) : (finishCycle st s).dispArg2 = s.dispArg2 := rfl
@[simp] theorem finishCycle_diagValid (st : DecStatus) (s : State) : (finishCycle st s).diagValid = s.diagValid := rfl
@[simp] theorem finishCycle_diagCode (st : DecStatus) (s : State) : (finishCycle st s).diagCode = s.diagCode := rfl
@[simp] theorem finishCycle_emitted (st : DecStatus) (s : State) : (finishCycle st s).emitted = s.emitted := rfl
@[simp] theorem finishCycle_pins (st : DecStatus) (s : State) : (finishCycle st s).pins = s.pins := rfl
@[simp] theorem finishCycle_upcoming (st : DecStatus) (s : State) : (finishCycle st s).upcoming = s.upcoming := rfl
@[simp] theorem finishCycle_freeCount (st : DecStatus) (s : State) : (finishCycle st s).freeCount = s.freeCount := rfl

/-! ### `closeCall` -/

@[simp] theorem closeCall_params (s : State) : (closeCall s).params = s.params := rfl
@[simp] theorem closeCall_ring (s : State) : (closeCall s).ring = s.ring := rfl
@[simp] theorem closeCall_rdIdx (s : State) : (closeCall s).rdIdx = s.rdIdx := rfl
@[simp] theorem closeCall_wrIdx (s : State) : (closeCall s).wrIdx = s.wrIdx := rfl
@[simp] theorem closeCall_fill (s : State) : (closeCall s).fill = s.fill := rfl
@[simp] theorem closeCall_putErr (s : State) : (closeCall s).putErr = s.putErr := rfl
@[simp] theorem closeCall_getErr (s : State) : (closeCall s).getErr = s.getErr := rfl
@[simp] theorem closeCall_getData (s : State) : (closeCall s).getData = s.getData := rfl
@[simp] theorem closeCall_addrConsumed (s : State) : (closeCall s).addrConsumed = s.addrConsumed := rfl
@[simp] theorem closeCall_bts (s : State) : (closeCall s).bts = s.bts := rfl
@[simp] theorem closeCall_evtPend (s : State) : (closeCall s).evtPend = s.evtPend := rfl
@[simp] theorem closeCall_rxHold (s : State) : (closeCall s).rxHold = s.rxHold := rfl
@[simp] theorem closeCall_rxIdx (s : State) : (closeCall s).rxIdx = s.rxIdx := rfl
@[simp] theorem closeCall_declSize (s : State) : (closeCall s).declSize = s.declSize := rfl
@[simp] theorem closeCall_completedFrameCount (s : State) : (closeCall s).completedFrameCount = s.completedFrameCount := rfl
@[simp] theorem closeCall_dstate (s : State) : (closeCall s).dstate = s.dstate := rfl
@[simp] theorem closeCall_frameId (s : State) : (closeCall s).frameId = s.frameId := rfl
@[simp] theorem closeCall_frameSize (s : State) : (closeCall s).frameSize = s.frameSize := rfl
@[simp] theorem closeCall_arg0 (s : State) : (closeCall s).arg0 = s.arg0 := rfl
@[simp] theorem closeCall_arg1 (s : State) : (closeCall s).arg1 = s.arg1 := rfl
@[simp] theorem closeCall_arg2 (s : State) : (closeCall s).arg2 = s.arg2 := rfl
@[simp] theorem closeCall_payNeed (s : State) : (closeCall s).payNeed = s.payNeed := rfl
@[simp] theorem closeCall_payCnt (s : State) : (closeCall s).payCnt = s.payCnt := rfl
@[simp] theorem closeCall_remaining (s : State) : (closeCall s).remaining = s.remaining := rfl
@[simp] theorem closeCall_decStatus (s : State) : (closeCall s).decStatus = s.decStatus := rfl
@[simp] theorem closeCall_rxMask (s : State) : (closeCall s).rxMask = false := rfl
@[simp] theorem closeCall_dispValid (s : State) : (closeCall s).dispValid = false := rfl
@[simp] theorem closeCall_dispOp (s : State) : (closeCall s).dispOp = .none := rfl
@[simp] theorem closeCall_dispArg0 (s : State) : (closeCall s).dispArg0 = s.dispArg0 := rfl
@[simp] theorem closeCall_dispArg1 (s : State) : (closeCall s).dispArg1 = s.dispArg1 := rfl
@[simp] theorem closeCall_dispArg2 (s : State) : (closeCall s).dispArg2 = s.dispArg2 := rfl
@[simp] theorem closeCall_diagValid (s : State) : (closeCall s).diagValid = s.diagValid := rfl
@[simp] theorem closeCall_diagCode (s : State) : (closeCall s).diagCode = s.diagCode := rfl
@[simp] theorem closeCall_emitted (s : State) : (closeCall s).emitted = s.emitted := rfl
@[simp] theorem closeCall_pins (s : State) : (closeCall s).pins = s.pins := rfl
@[simp] theorem closeCall_upcoming (s : State) : (closeCall s).upcoming = s.upcoming := rfl
@[simp] theorem closeCall_freeCount (s : State) : (closeCall s).freeCount = s.freeCount := rfl

/-! ### `closeReport` -/

@[simp] theorem closeReport_params (s : State) : (closeReport s).params = s.params := rfl
@[simp] theorem closeReport_ring (s : State) : (closeReport s).ring = s.ring := rfl
@[simp] theorem closeReport_rdIdx (s : State) : (closeReport s).rdIdx = s.rdIdx := rfl
@[simp] theorem closeReport_wrIdx (s : State) : (closeReport s).wrIdx = s.wrIdx := rfl
@[simp] theorem closeReport_fill (s : State) : (closeReport s).fill = s.fill := rfl
@[simp] theorem closeReport_putErr (s : State) : (closeReport s).putErr = s.putErr := rfl
@[simp] theorem closeReport_getErr (s : State) : (closeReport s).getErr = s.getErr := rfl
@[simp] theorem closeReport_getData (s : State) : (closeReport s).getData = s.getData := rfl
@[simp] theorem closeReport_addrConsumed (s : State) : (closeReport s).addrConsumed = s.addrConsumed := rfl
@[simp] theorem closeReport_bts (s : State) : (closeReport s).bts = s.bts := rfl
@[simp] theorem closeReport_evtPend (s : State) : (closeReport s).evtPend = s.evtPend := rfl
@[simp] theorem closeReport_rxHold (s : State) : (closeReport s).rxHold = s.rxHold := rfl
@[simp] theorem closeReport_rxIdx (s : State) : (closeReport s).rxIdx = s.rxIdx := rfl
@[simp] theorem closeReport_declSize (s : State) : (closeReport s).declSize = s.declSize := rfl
@[simp] theorem closeReport_completedFrameCount (s : State) : (closeReport s).completedFrameCount = s.completedFrameCount := rfl
@[simp] theorem closeReport_dstate (s : State) : (closeReport s).dstate = s.dstate := rfl
@[simp] theorem closeReport_frameId (s : State) : (closeReport s).frameId = s.frameId := rfl
@[simp] theorem closeReport_frameSize (s : State) : (closeReport s).frameSize = s.frameSize := rfl
@[simp] theorem closeReport_arg0 (s : State) : (closeReport s).arg0 = s.arg0 := rfl
@[simp] theorem closeReport_arg1 (s : State) : (closeReport s).arg1 = s.arg1 := rfl
@[simp] theorem closeReport_arg2 (s : State) : (closeReport s).arg2 = s.arg2 := rfl
@[simp] theorem closeReport_payNeed (s : State) : (closeReport s).payNeed = s.payNeed := rfl
@[simp] theorem closeReport_payCnt (s : State) : (closeReport s).payCnt = s.payCnt := rfl
@[simp] theorem closeReport_remaining (s : State) : (closeReport s).remaining = s.remaining := rfl
@[simp] theorem closeReport_decStatus (s : State) : (closeReport s).decStatus = s.decStatus := rfl
@[simp] theorem closeReport_rxMask (s : State) : (closeReport s).rxMask = false := rfl
@[simp] theorem closeReport_dispValid (s : State) : (closeReport s).dispValid = s.dispValid := rfl
@[simp] theorem closeReport_dispOp (s : State) : (closeReport s).dispOp = s.dispOp := rfl
@[simp] theorem closeReport_dispArg0 (s : State) : (closeReport s).dispArg0 = s.dispArg0 := rfl
@[simp] theorem closeReport_dispArg1 (s : State) : (closeReport s).dispArg1 = s.dispArg1 := rfl
@[simp] theorem closeReport_dispArg2 (s : State) : (closeReport s).dispArg2 = s.dispArg2 := rfl
@[simp] theorem closeReport_diagValid (s : State) : (closeReport s).diagValid = false := rfl
@[simp] theorem closeReport_diagCode (s : State) : (closeReport s).diagCode = s.diagCode := rfl
@[simp] theorem closeReport_emitted (s : State) : (closeReport s).emitted = s.emitted := rfl
@[simp] theorem closeReport_pins (s : State) : (closeReport s).pins = s.pins := rfl
@[simp] theorem closeReport_upcoming (s : State) : (closeReport s).upcoming = s.upcoming := rfl
@[simp] theorem closeReport_freeCount (s : State) : (closeReport s).freeCount = s.freeCount := rfl

/-! ### `classify` -/

@[simp] theorem classify_params (c : EventClass) (s : State) : (classify c s).params = s.params := rfl
@[simp] theorem classify_ring (c : EventClass) (s : State) : (classify c s).ring = s.ring := rfl
@[simp] theorem classify_rdIdx (c : EventClass) (s : State) : (classify c s).rdIdx = s.rdIdx := rfl
@[simp] theorem classify_wrIdx (c : EventClass) (s : State) : (classify c s).wrIdx = s.wrIdx := rfl
@[simp] theorem classify_fill (c : EventClass) (s : State) : (classify c s).fill = s.fill := rfl
@[simp] theorem classify_putErr (c : EventClass) (s : State) : (classify c s).putErr = s.putErr := rfl
@[simp] theorem classify_getErr (c : EventClass) (s : State) : (classify c s).getErr = s.getErr := rfl
@[simp] theorem classify_getData (c : EventClass) (s : State) : (classify c s).getData = s.getData := rfl
@[simp] theorem classify_addrConsumed (c : EventClass) (s : State) : (classify c s).addrConsumed = consumedAfter c s.addrConsumed := rfl
@[simp] theorem classify_bts (c : EventClass) (s : State) : (classify c s).bts = btsAfter c s.bts := rfl
@[simp] theorem classify_evtPend (c : EventClass) (s : State) : (classify c s).evtPend = s.evtPend := rfl
@[simp] theorem classify_rxHold (c : EventClass) (s : State) : (classify c s).rxHold = s.rxHold := rfl
@[simp] theorem classify_rxIdx (c : EventClass) (s : State) : (classify c s).rxIdx = s.rxIdx := rfl
@[simp] theorem classify_declSize (c : EventClass) (s : State) : (classify c s).declSize = s.declSize := rfl
@[simp] theorem classify_completedFrameCount (c : EventClass) (s : State) : (classify c s).completedFrameCount = s.completedFrameCount := rfl
@[simp] theorem classify_dstate (c : EventClass) (s : State) : (classify c s).dstate = s.dstate := rfl
@[simp] theorem classify_frameId (c : EventClass) (s : State) : (classify c s).frameId = s.frameId := rfl
@[simp] theorem classify_frameSize (c : EventClass) (s : State) : (classify c s).frameSize = s.frameSize := rfl
@[simp] theorem classify_arg0 (c : EventClass) (s : State) : (classify c s).arg0 = s.arg0 := rfl
@[simp] theorem classify_arg1 (c : EventClass) (s : State) : (classify c s).arg1 = s.arg1 := rfl
@[simp] theorem classify_arg2 (c : EventClass) (s : State) : (classify c s).arg2 = s.arg2 := rfl
@[simp] theorem classify_payNeed (c : EventClass) (s : State) : (classify c s).payNeed = s.payNeed := rfl
@[simp] theorem classify_payCnt (c : EventClass) (s : State) : (classify c s).payCnt = s.payCnt := rfl
@[simp] theorem classify_remaining (c : EventClass) (s : State) : (classify c s).remaining = s.remaining := rfl
@[simp] theorem classify_decStatus (c : EventClass) (s : State) : (classify c s).decStatus = s.decStatus := rfl
@[simp] theorem classify_rxMask (c : EventClass) (s : State) : (classify c s).rxMask = s.rxMask := rfl
@[simp] theorem classify_dispValid (c : EventClass) (s : State) : (classify c s).dispValid = s.dispValid := rfl
@[simp] theorem classify_dispOp (c : EventClass) (s : State) : (classify c s).dispOp = s.dispOp := rfl
@[simp] theorem classify_dispArg0 (c : EventClass) (s : State) : (classify c s).dispArg0 = s.dispArg0 := rfl
@[simp] theorem classify_dispArg1 (c : EventClass) (s : State) : (classify c s).dispArg1 = s.dispArg1 := rfl
@[simp] theorem classify_dispArg2 (c : EventClass) (s : State) : (classify c s).dispArg2 = s.dispArg2 := rfl
@[simp] theorem classify_diagValid (c : EventClass) (s : State) : (classify c s).diagValid = s.diagValid := rfl
@[simp] theorem classify_diagCode (c : EventClass) (s : State) : (classify c s).diagCode = s.diagCode := rfl
@[simp] theorem classify_emitted (c : EventClass) (s : State) : (classify c s).emitted = s.emitted := rfl
@[simp] theorem classify_pins (c : EventClass) (s : State) : (classify c s).pins = s.pins := rfl
@[simp] theorem classify_upcoming (c : EventClass) (s : State) : (classify c s).upcoming = s.upcoming := rfl
@[simp] theorem classify_freeCount (c : EventClass) (s : State) : (classify c s).freeCount = s.freeCount := rfl

/-! ### `endEvent` -/

@[simp] theorem endEvent_params (s : State) : (endEvent s).params = s.params := rfl
@[simp] theorem endEvent_ring (s : State) : (endEvent s).ring = s.ring := rfl
@[simp] theorem endEvent_rdIdx (s : State) : (endEvent s).rdIdx = s.rdIdx := rfl
@[simp] theorem endEvent_wrIdx (s : State) : (endEvent s).wrIdx = s.wrIdx := rfl
@[simp] theorem endEvent_fill (s : State) : (endEvent s).fill = s.fill := rfl
@[simp] theorem endEvent_putErr (s : State) : (endEvent s).putErr = s.putErr := rfl
@[simp] theorem endEvent_getErr (s : State) : (endEvent s).getErr = s.getErr := rfl
@[simp] theorem endEvent_getData (s : State) : (endEvent s).getData = s.getData := rfl
@[simp] theorem endEvent_addrConsumed (s : State) : (endEvent s).addrConsumed = s.addrConsumed := rfl
@[simp] theorem endEvent_bts (s : State) : (endEvent s).bts = s.bts := rfl
@[simp] theorem endEvent_evtPend (s : State) : (endEvent s).evtPend = false := rfl
@[simp] theorem endEvent_rxHold (s : State) : (endEvent s).rxHold = none := rfl
@[simp] theorem endEvent_rxIdx (s : State) : (endEvent s).rxIdx = s.rxIdx := rfl
@[simp] theorem endEvent_declSize (s : State) : (endEvent s).declSize = s.declSize := rfl
@[simp] theorem endEvent_completedFrameCount (s : State) : (endEvent s).completedFrameCount = s.completedFrameCount := rfl
@[simp] theorem endEvent_dstate (s : State) : (endEvent s).dstate = s.dstate := rfl
@[simp] theorem endEvent_frameId (s : State) : (endEvent s).frameId = s.frameId := rfl
@[simp] theorem endEvent_frameSize (s : State) : (endEvent s).frameSize = s.frameSize := rfl
@[simp] theorem endEvent_arg0 (s : State) : (endEvent s).arg0 = s.arg0 := rfl
@[simp] theorem endEvent_arg1 (s : State) : (endEvent s).arg1 = s.arg1 := rfl
@[simp] theorem endEvent_arg2 (s : State) : (endEvent s).arg2 = s.arg2 := rfl
@[simp] theorem endEvent_payNeed (s : State) : (endEvent s).payNeed = s.payNeed := rfl
@[simp] theorem endEvent_payCnt (s : State) : (endEvent s).payCnt = s.payCnt := rfl
@[simp] theorem endEvent_remaining (s : State) : (endEvent s).remaining = s.remaining := rfl
@[simp] theorem endEvent_decStatus (s : State) : (endEvent s).decStatus = s.decStatus := rfl
@[simp] theorem endEvent_rxMask (s : State) : (endEvent s).rxMask = s.rxMask := rfl
@[simp] theorem endEvent_dispValid (s : State) : (endEvent s).dispValid = s.dispValid := rfl
@[simp] theorem endEvent_dispOp (s : State) : (endEvent s).dispOp = s.dispOp := rfl
@[simp] theorem endEvent_dispArg0 (s : State) : (endEvent s).dispArg0 = s.dispArg0 := rfl
@[simp] theorem endEvent_dispArg1 (s : State) : (endEvent s).dispArg1 = s.dispArg1 := rfl
@[simp] theorem endEvent_dispArg2 (s : State) : (endEvent s).dispArg2 = s.dispArg2 := rfl
@[simp] theorem endEvent_diagValid (s : State) : (endEvent s).diagValid = s.diagValid := rfl
@[simp] theorem endEvent_diagCode (s : State) : (endEvent s).diagCode = s.diagCode := rfl
@[simp] theorem endEvent_emitted (s : State) : (endEvent s).emitted = s.emitted := rfl
@[simp] theorem endEvent_pins (s : State) : (endEvent s).pins = s.pins := rfl
@[simp] theorem endEvent_upcoming (s : State) : (endEvent s).upcoming = s.upcoming := rfl
@[simp] theorem endEvent_freeCount (s : State) : (endEvent s).freeCount = s.freeCount := rfl

/-! ### `beginStep` -/

@[simp] theorem beginStep_params (s : State) : (beginStep s).params = s.params := rfl
@[simp] theorem beginStep_ring (s : State) : (beginStep s).ring = s.ring := rfl
@[simp] theorem beginStep_rdIdx (s : State) : (beginStep s).rdIdx = s.rdIdx := rfl
@[simp] theorem beginStep_wrIdx (s : State) : (beginStep s).wrIdx = s.wrIdx := rfl
@[simp] theorem beginStep_fill (s : State) : (beginStep s).fill = s.fill := rfl
@[simp] theorem beginStep_putErr (s : State) : (beginStep s).putErr = s.putErr := rfl
@[simp] theorem beginStep_getErr (s : State) : (beginStep s).getErr = s.getErr := rfl
@[simp] theorem beginStep_getData (s : State) : (beginStep s).getData = s.getData := rfl
@[simp] theorem beginStep_addrConsumed (s : State) : (beginStep s).addrConsumed = s.addrConsumed := rfl
@[simp] theorem beginStep_bts (s : State) : (beginStep s).bts = s.bts := rfl
@[simp] theorem beginStep_evtPend (s : State) : (beginStep s).evtPend = s.evtPend := rfl
@[simp] theorem beginStep_rxHold (s : State) : (beginStep s).rxHold = s.rxHold := rfl
@[simp] theorem beginStep_rxIdx (s : State) : (beginStep s).rxIdx = s.rxIdx := rfl
@[simp] theorem beginStep_declSize (s : State) : (beginStep s).declSize = s.declSize := rfl
@[simp] theorem beginStep_completedFrameCount (s : State) : (beginStep s).completedFrameCount = s.completedFrameCount := rfl
@[simp] theorem beginStep_dstate (s : State) : (beginStep s).dstate = s.dstate := rfl
@[simp] theorem beginStep_frameId (s : State) : (beginStep s).frameId = s.frameId := rfl
@[simp] theorem beginStep_frameSize (s : State) : (beginStep s).frameSize = s.frameSize := rfl
@[simp] theorem beginStep_arg0 (s : State) : (beginStep s).arg0 = s.arg0 := rfl
@[simp] theorem beginStep_arg1 (s : State) : (beginStep s).arg1 = s.arg1 := rfl
@[simp] theorem beginStep_arg2 (s : State) : (beginStep s).arg2 = s.arg2 := rfl
@[simp] theorem beginStep_payNeed (s : State) : (beginStep s).payNeed = s.payNeed := rfl
@[simp] theorem beginStep_payCnt (s : State) : (beginStep s).payCnt = s.payCnt := rfl
@[simp] theorem beginStep_remaining (s : State) : (beginStep s).remaining = s.remaining := rfl
@[simp] theorem beginStep_decStatus (s : State) : (beginStep s).decStatus = s.decStatus := rfl
@[simp] theorem beginStep_rxMask (s : State) : (beginStep s).rxMask = s.rxMask := rfl
@[simp] theorem beginStep_dispValid (s : State) : (beginStep s).dispValid = s.dispValid := rfl
@[simp] theorem beginStep_dispOp (s : State) : (beginStep s).dispOp = s.dispOp := rfl
@[simp] theorem beginStep_dispArg0 (s : State) : (beginStep s).dispArg0 = s.dispArg0 := rfl
@[simp] theorem beginStep_dispArg1 (s : State) : (beginStep s).dispArg1 = s.dispArg1 := rfl
@[simp] theorem beginStep_dispArg2 (s : State) : (beginStep s).dispArg2 = s.dispArg2 := rfl
@[simp] theorem beginStep_diagValid (s : State) : (beginStep s).diagValid = s.diagValid := rfl
@[simp] theorem beginStep_diagCode (s : State) : (beginStep s).diagCode = s.diagCode := rfl
@[simp] theorem beginStep_emitted (s : State) : (beginStep s).emitted = [] := rfl
@[simp] theorem beginStep_pins (s : State) : (beginStep s).pins = s.pins := rfl
@[simp] theorem beginStep_upcoming (s : State) : (beginStep s).upcoming = s.upcoming := rfl
@[simp] theorem beginStep_freeCount (s : State) : (beginStep s).freeCount = s.freeCount := rfl

/-! ### `nextInputs` and `endStep`: only the inputs and `evt_pend` -/

@[simp] theorem nextInputs_params (s : State) : (nextInputs s).params = s.params := by
  unfold nextInputs; split <;> rfl
@[simp] theorem nextInputs_ring (s : State) : (nextInputs s).ring = s.ring := by
  unfold nextInputs; split <;> rfl
@[simp] theorem nextInputs_rdIdx (s : State) : (nextInputs s).rdIdx = s.rdIdx := by
  unfold nextInputs; split <;> rfl
@[simp] theorem nextInputs_wrIdx (s : State) : (nextInputs s).wrIdx = s.wrIdx := by
  unfold nextInputs; split <;> rfl
@[simp] theorem nextInputs_fill (s : State) : (nextInputs s).fill = s.fill := by
  unfold nextInputs; split <;> rfl
@[simp] theorem nextInputs_putErr (s : State) : (nextInputs s).putErr = s.putErr := by
  unfold nextInputs; split <;> rfl
@[simp] theorem nextInputs_getErr (s : State) : (nextInputs s).getErr = s.getErr := by
  unfold nextInputs; split <;> rfl
@[simp] theorem nextInputs_getData (s : State) : (nextInputs s).getData = s.getData := by
  unfold nextInputs; split <;> rfl
@[simp] theorem nextInputs_addrConsumed (s : State) : (nextInputs s).addrConsumed = s.addrConsumed := by
  unfold nextInputs; split <;> rfl
@[simp] theorem nextInputs_bts (s : State) : (nextInputs s).bts = s.bts := by
  unfold nextInputs; split <;> rfl
@[simp] theorem nextInputs_evtPend (s : State) : (nextInputs s).evtPend = s.evtPend := by
  unfold nextInputs; split <;> rfl
@[simp] theorem nextInputs_rxHold (s : State) : (nextInputs s).rxHold = s.rxHold := by
  unfold nextInputs; split <;> rfl
@[simp] theorem nextInputs_rxIdx (s : State) : (nextInputs s).rxIdx = s.rxIdx := by
  unfold nextInputs; split <;> rfl
@[simp] theorem nextInputs_declSize (s : State) : (nextInputs s).declSize = s.declSize := by
  unfold nextInputs; split <;> rfl
@[simp] theorem nextInputs_completedFrameCount (s : State) : (nextInputs s).completedFrameCount = s.completedFrameCount := by
  unfold nextInputs; split <;> rfl
@[simp] theorem nextInputs_dstate (s : State) : (nextInputs s).dstate = s.dstate := by
  unfold nextInputs; split <;> rfl
@[simp] theorem nextInputs_frameId (s : State) : (nextInputs s).frameId = s.frameId := by
  unfold nextInputs; split <;> rfl
@[simp] theorem nextInputs_frameSize (s : State) : (nextInputs s).frameSize = s.frameSize := by
  unfold nextInputs; split <;> rfl
@[simp] theorem nextInputs_arg0 (s : State) : (nextInputs s).arg0 = s.arg0 := by
  unfold nextInputs; split <;> rfl
@[simp] theorem nextInputs_arg1 (s : State) : (nextInputs s).arg1 = s.arg1 := by
  unfold nextInputs; split <;> rfl
@[simp] theorem nextInputs_arg2 (s : State) : (nextInputs s).arg2 = s.arg2 := by
  unfold nextInputs; split <;> rfl
@[simp] theorem nextInputs_payNeed (s : State) : (nextInputs s).payNeed = s.payNeed := by
  unfold nextInputs; split <;> rfl
@[simp] theorem nextInputs_payCnt (s : State) : (nextInputs s).payCnt = s.payCnt := by
  unfold nextInputs; split <;> rfl
@[simp] theorem nextInputs_remaining (s : State) : (nextInputs s).remaining = s.remaining := by
  unfold nextInputs; split <;> rfl
@[simp] theorem nextInputs_decStatus (s : State) : (nextInputs s).decStatus = s.decStatus := by
  unfold nextInputs; split <;> rfl
@[simp] theorem nextInputs_rxMask (s : State) : (nextInputs s).rxMask = s.rxMask := by
  unfold nextInputs; split <;> rfl
@[simp] theorem nextInputs_dispValid (s : State) : (nextInputs s).dispValid = s.dispValid := by
  unfold nextInputs; split <;> rfl
@[simp] theorem nextInputs_dispOp (s : State) : (nextInputs s).dispOp = s.dispOp := by
  unfold nextInputs; split <;> rfl
@[simp] theorem nextInputs_dispArg0 (s : State) : (nextInputs s).dispArg0 = s.dispArg0 := by
  unfold nextInputs; split <;> rfl
@[simp] theorem nextInputs_dispArg1 (s : State) : (nextInputs s).dispArg1 = s.dispArg1 := by
  unfold nextInputs; split <;> rfl
@[simp] theorem nextInputs_dispArg2 (s : State) : (nextInputs s).dispArg2 = s.dispArg2 := by
  unfold nextInputs; split <;> rfl
@[simp] theorem nextInputs_diagValid (s : State) : (nextInputs s).diagValid = s.diagValid := by
  unfold nextInputs; split <;> rfl
@[simp] theorem nextInputs_diagCode (s : State) : (nextInputs s).diagCode = s.diagCode := by
  unfold nextInputs; split <;> rfl
@[simp] theorem nextInputs_emitted (s : State) : (nextInputs s).emitted = s.emitted := by
  unfold nextInputs; split <;> rfl
@[simp] theorem nextInputs_freeCount (s : State) : (nextInputs s).freeCount = s.freeCount := by
  unfold nextInputs; split <;> rfl
@[simp] theorem endStep_params (s : State) : (endStep s).params = s.params := by
  unfold endStep; simp
@[simp] theorem endStep_ring (s : State) : (endStep s).ring = s.ring := by
  unfold endStep; simp
@[simp] theorem endStep_rdIdx (s : State) : (endStep s).rdIdx = s.rdIdx := by
  unfold endStep; simp
@[simp] theorem endStep_wrIdx (s : State) : (endStep s).wrIdx = s.wrIdx := by
  unfold endStep; simp
@[simp] theorem endStep_fill (s : State) : (endStep s).fill = s.fill := by
  unfold endStep; simp
@[simp] theorem endStep_putErr (s : State) : (endStep s).putErr = s.putErr := by
  unfold endStep; simp
@[simp] theorem endStep_getErr (s : State) : (endStep s).getErr = s.getErr := by
  unfold endStep; simp
@[simp] theorem endStep_getData (s : State) : (endStep s).getData = s.getData := by
  unfold endStep; simp
@[simp] theorem endStep_addrConsumed (s : State) : (endStep s).addrConsumed = s.addrConsumed := by
  unfold endStep; simp
@[simp] theorem endStep_bts (s : State) : (endStep s).bts = s.bts := by
  unfold endStep; simp
@[simp] theorem endStep_rxHold (s : State) : (endStep s).rxHold = s.rxHold := by
  unfold endStep; simp
@[simp] theorem endStep_rxIdx (s : State) : (endStep s).rxIdx = s.rxIdx := by
  unfold endStep; simp
@[simp] theorem endStep_declSize (s : State) : (endStep s).declSize = s.declSize := by
  unfold endStep; simp
@[simp] theorem endStep_completedFrameCount (s : State) : (endStep s).completedFrameCount = s.completedFrameCount := by
  unfold endStep; simp
@[simp] theorem endStep_dstate (s : State) : (endStep s).dstate = s.dstate := by
  unfold endStep; simp
@[simp] theorem endStep_frameId (s : State) : (endStep s).frameId = s.frameId := by
  unfold endStep; simp
@[simp] theorem endStep_frameSize (s : State) : (endStep s).frameSize = s.frameSize := by
  unfold endStep; simp
@[simp] theorem endStep_arg0 (s : State) : (endStep s).arg0 = s.arg0 := by
  unfold endStep; simp
@[simp] theorem endStep_arg1 (s : State) : (endStep s).arg1 = s.arg1 := by
  unfold endStep; simp
@[simp] theorem endStep_arg2 (s : State) : (endStep s).arg2 = s.arg2 := by
  unfold endStep; simp
@[simp] theorem endStep_payNeed (s : State) : (endStep s).payNeed = s.payNeed := by
  unfold endStep; simp
@[simp] theorem endStep_payCnt (s : State) : (endStep s).payCnt = s.payCnt := by
  unfold endStep; simp
@[simp] theorem endStep_remaining (s : State) : (endStep s).remaining = s.remaining := by
  unfold endStep; simp
@[simp] theorem endStep_decStatus (s : State) : (endStep s).decStatus = s.decStatus := by
  unfold endStep; simp
@[simp] theorem endStep_rxMask (s : State) : (endStep s).rxMask = s.rxMask := by
  unfold endStep; simp
@[simp] theorem endStep_dispValid (s : State) : (endStep s).dispValid = s.dispValid := by
  unfold endStep; simp
@[simp] theorem endStep_dispOp (s : State) : (endStep s).dispOp = s.dispOp := by
  unfold endStep; simp
@[simp] theorem endStep_dispArg0 (s : State) : (endStep s).dispArg0 = s.dispArg0 := by
  unfold endStep; simp
@[simp] theorem endStep_dispArg1 (s : State) : (endStep s).dispArg1 = s.dispArg1 := by
  unfold endStep; simp
@[simp] theorem endStep_dispArg2 (s : State) : (endStep s).dispArg2 = s.dispArg2 := by
  unfold endStep; simp
@[simp] theorem endStep_diagValid (s : State) : (endStep s).diagValid = s.diagValid := by
  unfold endStep; simp
@[simp] theorem endStep_diagCode (s : State) : (endStep s).diagCode = s.diagCode := by
  unfold endStep; simp
@[simp] theorem endStep_emitted (s : State) : (endStep s).emitted = s.emitted := by
  unfold endStep; simp
@[simp] theorem endStep_freeCount (s : State) : (endStep s).freeCount = s.freeCount := by
  unfold endStep; simp
@[simp] theorem endStep_evtPend (s : State) : (endStep s).evtPend = evtPendAfter s.pins.evt s.evtPend := by
  unfold endStep; simp

end Sys2Proof.Machine
end

