-- ==== Sys2Proof/Laws/Ops.lean ====
section
/-! SUPPORT. What each shared operation can do: if it answers a next state, then one of the cases of its
rule holds. The provers cite these instead of unfolding the operations. -/

namespace Sys2Proof.Machine

@[simp] theorem andThen_next (s : State) (f : State → Result) : andThen (.next s) f = f s := rfl
@[simp] theorem andThen_fault (e : Fault) (f : State → Result) : andThen (.fault e) f = .fault e := rfl
@[simp] theorem andThen_refused (e : Refusal) (f : State → Result) :
    andThen (.refused e) f = .refused e := rfl

theorem andThen_eq_next {r : Result} {f : State → Result} {t : State} :
    andThen r f = .next t ↔ ∃ s, r = .next s ∧ f s = .next t := by
  cases r <;> simp [andThen]

@[simp] theorem slotExists_iff (p : Config.Params) (i : Nat) : slotExists p i = true ↔ i < p.n := by
  simp [slotExists]

/-! ### `put` and `get` -/

theorem ringPut_full (b : Byte) (s : State) (h : s.fill = .full) :
    ringPut b s = .next { s with putErr := true } := by
  simp [ringPut, h]

theorem ringPut_accepts (b : Byte) (s : State) (h : s.fill ≠ .full) (hw : s.wrIdx < s.params.n) :
    ringPut b s = .next { s with
      ring := Memory.write s.ring s.wrIdx b
      wrIdx := nextIdx s.params s.wrIdx
      fill := fillAfterPut (nextIdx s.params s.wrIdx) s.rdIdx
      putErr := false } := by
  simp [ringPut, h, hw]

theorem ringGet_empty (s : State) (h : s.fill = .empty) :
    ringGet s = .next { s with
      getErr := true, getData := Config.emptyGetData s.freeCount, freeCount := s.freeCount + 1 } := by
  simp [ringGet, h]

theorem ringGet_accepts (s : State) (h : s.fill ≠ .empty) (hr : s.rdIdx < s.params.n) :
    ringGet s = .next { s with
      rdIdx := nextIdx s.params s.rdIdx
      fill := fillAfterGet (nextIdx s.params s.rdIdx) s.wrIdx
      getErr := false
      getData := Memory.read s.ring s.rdIdx } := by
  simp [ringGet, h, hr]

/-- All that `put` can do. -/
theorem ringPut_cases {b : Byte} {s t : State} (h : ringPut b s = .next t) :
    (s.fill = .full ∧ t = { s with putErr := true }) ∨
    (s.fill ≠ .full ∧ s.wrIdx < s.params.n ∧ t = { s with
      ring := Memory.write s.ring s.wrIdx b
      wrIdx := nextIdx s.params s.wrIdx
      fill := fillAfterPut (nextIdx s.params s.wrIdx) s.rdIdx
      putErr := false }) := by
  by_cases hf : s.fill = .full
  · rw [ringPut_full b s hf] at h
    exact .inl ⟨hf, by simpa using h.symm⟩
  · by_cases hw : s.wrIdx < s.params.n
    · rw [ringPut_accepts b s hf hw] at h
      exact .inr ⟨hf, hw, by simpa using h.symm⟩
    · simp [ringPut, hf, hw] at h

/-- All that `get` can do. -/
theorem ringGet_cases {s t : State} (h : ringGet s = .next t) :
    (s.fill = .empty ∧ t = { s with
      getErr := true, getData := Config.emptyGetData s.freeCount, freeCount := s.freeCount + 1 }) ∨
    (s.fill ≠ .empty ∧ s.rdIdx < s.params.n ∧ t = { s with
      rdIdx := nextIdx s.params s.rdIdx
      fill := fillAfterGet (nextIdx s.params s.rdIdx) s.wrIdx
      getErr := false
      getData := Memory.read s.ring s.rdIdx }) := by
  by_cases hf : s.fill = .empty
  · rw [ringGet_empty s hf] at h
    exact .inl ⟨hf, by simpa using h.symm⟩
  · by_cases hr : s.rdIdx < s.params.n
    · rw [ringGet_accepts s hf hr] at h
      exact .inr ⟨hf, hr, by simpa using h.symm⟩
    · simp [ringGet, hf, hr] at h

/-- What `put` may change. -/
theorem ringPut_frame {b : Byte} {s t : State} (h : ringPut b s = .next t) :
    t = { s with ring := t.ring, wrIdx := t.wrIdx, fill := t.fill, putErr := t.putErr } := by
  rcases ringPut_cases h with ⟨_, rfl⟩ | ⟨_, _, rfl⟩ <;> rfl

/-- What `get` may change. -/
theorem ringGet_frame {s t : State} (h : ringGet s = .next t) :
    t = { s with
      rdIdx := t.rdIdx, fill := t.fill, getErr := t.getErr, getData := t.getData, freeCount := t.freeCount } := by
  rcases ringGet_cases h with ⟨_, rfl⟩ | ⟨_, _, rfl⟩ <;> rfl

/-- All that `put` and `get` in one step can do. -/
theorem ringPutGet_cases {b : Byte} {s t : State} (h : ringPutGet b s = .next t) :
    (s.fill = .empty ∧ ∃ u, ringGet s = .next u ∧ ringPut b u = .next t) ∨
    (s.fill = .full ∧ ∃ u, ringPut b s = .next u ∧ ringGet u = .next t) ∨
    (s.fill = .partial_ ∧ s.wrIdx < s.params.n ∧ s.rdIdx < s.params.n ∧ t = { s with
      ring := Memory.write s.ring s.wrIdx b
      wrIdx := nextIdx s.params s.wrIdx
      rdIdx := nextIdx s.params s.rdIdx
      fill := .partial_
      putErr := false
      getErr := false
      getData := Memory.read s.ring s.rdIdx }) := by
  unfold ringPutGet at h
  split at h
  · exact .inl ⟨‹_›, andThen_eq_next.1 h⟩
  · exact .inr (.inl ⟨‹_›, andThen_eq_next.1 h⟩)
  · split at h
    · rename_i hf hi
      simp only [Bool.and_eq_true, slotExists_iff] at hi
      exact .inr (.inr ⟨hf, hi.1, hi.2, by simpa using h.symm⟩)
    · cases h

/-- All that storing a payload byte in its register can do. -/
theorem setArg_cases {k : BitVec 2} {b : Byte} {s t : State} (h : setArg k b s = .next t) :
    (k = 0 ∧ t = { s with arg0 := b }) ∨ (k = 1 ∧ t = { s with arg1 := b }) ∨
    (k = 2 ∧ t = { s with arg2 := b }) := by
  unfold setArg at h
  split at h
  · exact .inl ⟨‹_›, by simpa using h.symm⟩
  · split at h
    · exact .inr (.inl ⟨‹_›, by simpa using h.symm⟩)
    · split at h
      · exact .inr (.inr ⟨‹_›, by simpa using h.symm⟩)
      · cases h

/-! ### Receive steps -/

/-- All that the DataWrite action can do: what `put` did, the loss pulse if it refused, the bookkeeping. -/
theorem receiveByte_cases {s t : State} (h : receiveByte s = .next t) :
    ∃ u, ringPut s.pins.rxData (emit .rxRd s) = .next u ∧
      t = countByte s.pins.rxData (if u.putErr then emit .rxLost u else u) := by
  obtain ⟨u, hu, ht⟩ := andThen_eq_next.1 h
  exact ⟨u, hu, by simpa [raise] using ht.symm⟩

/-- The wait of a DataRead step goes on, or the step ends with the clock release. -/
theorem awaitCollision_cases (key : Key) (s : State) :
    (s.pins.wcol = true ∧ awaitCollision key s = { s with rxHold := some key }) ∨
    (s.pins.wcol = false ∧ awaitCollision key s = releaseAndEnd (classify .dataRead s)) := by
  unfold awaitCollision
  cases s.pins.wcol <;> simp

/-! ### Decoder steps -/

/-- All that GET_PAYLOAD can do: abort on an Empty ring, or load the next arg register. -/
theorem getPayloadStep_cases {s t : State} (h : getPayloadStep s = .next t) :
    (s.fill = .empty ∧ ∃ u, ringGet s = .next u ∧ t = goto .report u) ∨
    (s.fill ≠ .empty ∧ ∃ u v, ringGet s = .next u ∧ setArg u.payCnt u.getData u = .next v ∧
      t = { v with
        payCnt := v.payCnt + 1
        dstate := if v.payCnt + 1 = v.payNeed then .call else .getPayload }) := by
  obtain ⟨u, hu, ht⟩ := andThen_eq_next.1 h
  rcases ringGet_cases hu with ⟨hf, rfl⟩ | ⟨hf, _, rfl⟩
  · exact .inl ⟨hf, _, hu, by simpa [raise] using ht.symm⟩
  · obtain ⟨v, hv, hw⟩ := andThen_eq_next.1 (by simpa [storePayload] using ht)
    exact .inr ⟨hf, _, v, hu, hv, by simpa using hw.symm⟩

/-- All that one step of a command can do, by `dstate`. -/
theorem commandStep_cases {b w : State → State} {c : State → Result} {s t : State}
    (h : commandStep b c w s = .next t) :
    (s.dstate = .getPayload ∧ getPayloadStep s = .next t) ∨ (s.dstate = .call ∧ c s = .next t) ∨
    (s.dstate = .waitDisp ∧ t = w s) ∨
    (s.dstate ≠ .getPayload ∧ s.dstate ≠ .call ∧ s.dstate ≠ .waitDisp ∧ t = b s) := by
  unfold commandStep at h
  split at h <;> simp_all

/-- WAIT_DISP of a command of one call holds, or closes the call and ends the cycle. -/
theorem waitDispOnce_cases (s : State) :
    (s.pins.dispDone = false ∧ waitDispOnce s = s) ∨
    (s.pins.dispDone = true ∧ waitDispOnce s = finishCycle .ok (closeCall s)) := by
  unfold waitDispOnce
  cases s.pins.dispDone <;> simp

/-- WAIT_DISP of PutString holds, or closes the call and ends the cycle, or goes on with the next character. -/
theorem waitDispString_cases (s : State) :
    (s.pins.dispDone = false ∧ waitDispString s = s) ∨
    (s.pins.dispDone = true ∧ s.remaining - 1 = 0 ∧
      waitDispString s = finishCycle .ok { closeCall s with remaining := s.remaining - 1 }) ∨
    (s.pins.dispDone = true ∧ s.remaining - 1 ≠ 0 ∧
      waitDispString s = goto .getPayload { closeCall s with remaining := s.remaining - 1, payCnt := 0 }) := by
  unfold waitDispString
  cases hd : s.pins.dispDone with
  | false => exact .inl ⟨rfl, by simp⟩
  | true =>
    by_cases hr : s.remaining - 1 = 0
    · exact .inr (.inl ⟨rfl, hr, by simp only [if_true, if_pos hr]⟩)
    · exact .inr (.inr ⟨rfl, hr, by simp only [if_true, if_neg hr]⟩)

/-- WAIT_DIAG holds, or closes the report and ends the cycle. -/
theorem waitDiagStep_cases (s : State) :
    (s.pins.diagDone = false ∧ waitDiagStep s = s) ∨
    (s.pins.diagDone = true ∧ waitDiagStep s = finishCycle .bufferEmpty (closeReport s)) := by
  unfold waitDiagStep
  cases s.pins.diagDone <;> simp

/-- All that a header fetch can do. -/
theorem getIdStep_cases {s t : State} (h : getIdStep s = .next t) :
    ∃ u, ringGet s = .next u ∧
      ((s.fill = .empty ∧ t = goto .report u) ∨
        (s.fill ≠ .empty ∧ t = goto .getSize { u with frameId := u.getData })) := by
  obtain ⟨u, hu, ht⟩ := andThen_eq_next.1 h
  rcases ringGet_cases hu with ⟨hf, rfl⟩ | ⟨hf, _, rfl⟩
  · exact ⟨_, hu, .inl ⟨hf, by simpa [raise] using ht.symm⟩⟩
  · exact ⟨_, hu, .inr ⟨hf, by simpa using ht.symm⟩⟩

/-- All that a size fetch can do. -/
theorem getSizeStep_cases {s t : State} (h : getSizeStep s = .next t) :
    ∃ u, ringGet s = .next u ∧
      ((s.fill = .empty ∧ t = goto .report u) ∨
        (s.fill ≠ .empty ∧ t = goto .dispatch { u with frameSize := u.getData })) := by
  obtain ⟨u, hu, ht⟩ := andThen_eq_next.1 h
  rcases ringGet_cases hu with ⟨hf, rfl⟩ | ⟨hf, _, rfl⟩
  · exact ⟨_, hu, .inl ⟨hf, by simpa [raise] using ht.symm⟩⟩
  · exact ⟨_, hu, .inr ⟨hf, by simpa using ht.symm⟩⟩

/-- The pulses of a new transaction and its registers. -/
theorem startTransaction_eq (s : State) :
    startTransaction s = { s with
      rxIdx := 0
      declSize := 0
      emitted := s.emitted ++ (if s.params.addrEventReadsData then [.rxRd] else []) } := by
  unfold startTransaction
  cases s.params.addrEventReadsData <;> simp [emit]

/-! ### Steps -/

/-- All that a step can do: reset, or one turn between the end of the last pulses and the recording of the
step's event. -/
theorem step_cases {s t : State} (h : step s = .next t) :
    (s.pins.rst = true ∧ t = nextInputs (applyReset s)) ∨
    (s.pins.rst = false ∧ ∃ u, takeTurn (turn s) (beginStep s) = .next u ∧ t = endStep u) := by
  unfold step at h
  cases hr : s.pins.rst with
  | true => exact .inl ⟨rfl, by simpa [hr] using h.symm⟩
  | false =>
    obtain ⟨u, hu, ht⟩ := andThen_eq_next.1 (by simpa [hr] using h)
    exact .inr ⟨rfl, u, hu, by simpa using ht.symm⟩

/-- Whose turn it can be. -/
theorem turn_cases (s : State) :
    (∃ p, s.pins.fifo = some p ∧ turn s = .run (decodePort p)) ∨
    (s.pins.fifo = none ∧ receiveEnabled s = true ∧ turn s = .run (decodeKey (eventKey s))) ∨
    (s.pins.fifo = none ∧ receiveEnabled s = false ∧ turn s = decoderTurn s) := by
  unfold turn
  cases s.pins.fifo <;> cases receiveEnabled s <;> simp

/-- What a strobe word runs. -/
theorem decodePort_cases (p : PortWord) :
    (∃ g, decodePort p = .put g) ∨ decodePort p = .get ∨ decodePort p = .state := by
  unfold decodePort
  split
  · exact .inl ⟨_, rfl⟩
  · split <;> simp

/-- What a key runs. -/
theorem decodeKey_cases (k : Key) :
    (∃ c b n, decodeKey k = .addressWrite c b n) ∨ (∃ b n, decodeKey k = .dataWrite b n) ∨
    (∃ c b n, decodeKey k = .addressRead c b n) ∨ (∃ c b n, decodeKey k = .dataRead c b n) ∨
    decodeKey k = .idle k := by
  unfold decodeKey
  split
  · exact .inl ⟨_, _, _, rfl⟩
  · split
    · exact .inr (.inl ⟨_, _, rfl⟩)
    · split
      · exact .inr (.inr (.inl ⟨_, _, _, rfl⟩))
      · split
        · exact .inr (.inr (.inr (.inl ⟨_, _, _, rfl⟩)))
        · simp

end Sys2Proof.Machine
end

