-- ==== Sys2Proof/Laws/PerInstr.lean ====
section
/-! SUPPORT. Statements about every instruction, one lemma per constructor. -/

namespace Sys2Proof.Laws.WordCount

/-- An instruction's encoding has the length of its row's word: two bytes for a header, one for a key or a
strobe word (30_encoding R91, R97, R103). -/
def Statement (i : Instr) : Prop := (encode i).length = if i.format = .frameHdr then 2 else 1

theorem clearDisplay : Statement .clearDisplay := rfl

theorem returnHome : Statement .returnHome := rfl

theorem setCursor : Statement .setCursor := rfl

theorem putChar : Statement .putChar := rfl

theorem controlDisplay : Statement .controlDisplay := rfl

theorem putStringShort (size : Byte) : Statement (.putStringShort size) := rfl

theorem putString (size : Byte) : Statement (.putString size) := rfl

theorem clearDisplayWrongSize (size : Byte) : Statement (.clearDisplayWrongSize size) := rfl

theorem returnHomeWrongSize (size : Byte) : Statement (.returnHomeWrongSize size) := rfl

theorem setCursorWrongSize (size : Byte) : Statement (.setCursorWrongSize size) := rfl

theorem putCharWrongSize (size : Byte) : Statement (.putCharWrongSize size) := rfl

theorem controlDisplayWrongSize (size : Byte) : Statement (.controlDisplayWrongSize size) := rfl

theorem unknown (id size : Byte) : Statement (.unknown id size) := rfl

theorem addressWrite (consumed bf nak : Bool) : Statement (.addressWrite consumed bf nak) := rfl

theorem dataWrite (bf nak : Bool) : Statement (.dataWrite bf nak) := rfl

theorem addressRead (consumed bf nak : Bool) : Statement (.addressRead consumed bf nak) := rfl

theorem dataRead (consumed bf nak : Bool) : Statement (.dataRead consumed bf nak) := rfl

theorem idle (key : Key) : Statement (.idle key) := rfl

theorem put (getEn : Bool) : Statement (.put getEn) := rfl

theorem get : Statement .get := rfl

theorem state : Statement .state := rfl

end Sys2Proof.Laws.WordCount
end

