-- ==== Sys2Proof/Tests/Slice0.lean ====
section
/-! SUPPORT. The model's own tests: ill-formed terms refused, words written out from spec/30_encoding.md decoded,
vectors of spec/95_test_vectors.md, and for each statement with hypotheses a state that meets them. -/

namespace Sys2Proof.Tests

open Machine

/-! ### Small states -/

/-- `bs` written from slot `a` on. -/
def fillFrom (n : Nat) : Nat → List Byte → Memory → Memory
  | _, [], m => m
  | a, b :: bs, m => fillFrom n ((a + 1) % n) bs (Memory.write m a b)

/-- After reset, with `N` = `n` and `bs` unread from slot `rd` on. -/
def held (n rd : Nat) (bs : List Byte) : State :=
  { State.reset with
    params := { Config.defaults with n := n }
    ring := fillFrom n rd bs []
    rdIdx := rd
    wrIdx := (rd + bs.length) % n
    fill := if bs.length = 0 then .empty else if bs.length = n then .full else .partial_ }

/-- The pulse that completes a call. -/
def callDone : Inputs := { Inputs.quiet with dispDone := true }

/-- The pulse that completes a report. -/
def reportDone : Inputs := { Inputs.quiet with diagDone := true }

/-- `k` quiet steps and then `q`. -/
def after (k : Nat) (q : Inputs) : List Inputs := List.replicate k Inputs.quiet ++ [q]

/-- `bs` unread from slot 6 of 8, one frame counted, a quiet first step and then these inputs. -/
def ready (script : List Inputs) (bs : List Byte) : State :=
  { held 8 6 bs with completedFrameCount := 1, upcoming := script }

/-- A pending event with this snapshot and byte. -/
def eventOf (snap : Snap) (b : Byte) (s : State) : State :=
  { s with evtPend := true, pins := { s.pins with snap := snap, rxData := b } }

/-- The next state, if there is one. -/
def nextOf : Result → Option State
  | .next s => some s
  | .fault _ => none
  | .refused _ => none

/-- What a whole run of `k` steps shows, its status and what it leaves unread. -/
def cycle (k : Nat) (s : State) : Option (List Shown × DecStatus × List Byte) :=
  (runTrace k s).map fun r => (r.1.filterMap shown, r.2.decStatus, unread r.2)

/-! ### Well-formedness -/

theorem test_wf_refuses_putStringShort_of_size_two : (Instr.putStringShort 2).wf = false := by decide
theorem test_wf_refuses_putString_of_size_one : (Instr.putString 1).wf = false := by decide
theorem test_wf_refuses_clearDisplay_size : (Instr.clearDisplayWrongSize 2).wf = false := by decide
theorem test_wf_refuses_returnHome_size : (Instr.returnHomeWrongSize 2).wf = false := by decide
theorem test_wf_refuses_setCursor_size : (Instr.setCursorWrongSize 4).wf = false := by decide
theorem test_wf_refuses_putChar_size : (Instr.putCharWrongSize 3).wf = false := by decide
theorem test_wf_refuses_controlDisplay_size : (Instr.controlDisplayWrongSize 5).wf = false := by decide
theorem test_wf_refuses_known_identifiers_as_unknown :
    ([1, 2, 3, 4, 5, 6] : List Byte).all (fun id => (Instr.unknown id 9).wf) = false ∧
      (Instr.unknown 6 9).wf = false ∧ (Instr.unknown 1 9).wf = false := by decide
theorem test_wf_refuses_other_classes_keys_as_idle :
    (Instr.idle 0b010010).wf = false ∧ (Instr.idle 0b111010).wf = false ∧ (Instr.idle 0b010110).wf = false ∧
      (Instr.idle 0b011110).wf = false := by decide

/-! ### Decoding: words written out from 30_encoding R92, R95, R97, R103 -/

theorem test_decode_fixed_headers :
    decodeTableWord 16 0x0102 = some .clearDisplay ∧ decodeTableWord 16 0x0202 = some .returnHome ∧
      decodeTableWord 16 0x0304 = some .setCursor ∧ decodeTableWord 16 0x0403 = some .putChar ∧
      decodeTableWord 16 0x0605 = some .controlDisplay := by decide
theorem test_decode_putString_headers :
    decodeTableWord 16 0x0501 = some (.putStringShort 1) ∧ decodeTableWord 16 0x0502 = some (.putString 2) ∧
      decodeTableWord 16 0x05FF = some (.putString 0xFF) := by decide
theorem test_decode_wrong_sizes :
    decodeTableWord 16 0x0105 = some (.clearDisplayWrongSize 5) ∧
      decodeTableWord 16 0x0200 = some (.returnHomeWrongSize 0) ∧
      decodeTableWord 16 0x0303 = some (.setCursorWrongSize 3) ∧
      decodeTableWord 16 0x0404 = some (.putCharWrongSize 4) ∧
      decodeTableWord 16 0x0604 = some (.controlDisplayWrongSize 4) := by decide
theorem test_decode_unknown :
    decodeTableWord 16 0x0002 = some (.unknown 0 2) ∧ decodeTableWord 16 0x0704 = some (.unknown 7 4) ∧
      decodeTableWord 16 0xFFFF = some (.unknown 0xFF 0xFF) := by decide
theorem test_decode_keys :
    decodeTableWord 6 0b110010 = some (.addressWrite true true false) ∧
      decodeTableWord 6 0b111001 = some (.dataWrite false true) ∧
      decodeTableWord 6 0b010110 = some (.addressRead false true false) ∧
      decodeTableWord 6 0b011100 = some (.dataRead false false false) ∧
      decodeTableWord 6 0b011010 = some (.idle 0b011010) ∧
      decodeTableWord 6 0b101111 = some (.idle 0b101111) := by decide
theorem test_decode_strobes :
    decodeTableWord 2 0b10 = some (.put false) ∧ decodeTableWord 2 0b11 = some (.put true) ∧
      decodeTableWord 2 0b01 = some .get ∧ decodeTableWord 2 0b00 = some .state := by decide
theorem test_decode_refuses_wide_words :
    decode .snapshotKey [0b01000000] = .error .keyTooWide ∧ decode .fifoPort [0b100] = .error .portTooWide ∧
      decode .frameHdr [0x05] = .error .truncated := ⟨rfl, rfl, rfl⟩
theorem test_encode_writes_the_wire_order :
    encode .setCursor = [0x03, 0x04] ∧ encode (.dataWrite true false) = [0b111010] ∧
      encode (.put true) = [0b11] := by decide

/-- The word placed is the instruction the next step runs (log entry 3). -/
theorem test_fetch_word_has_the_turn :
    turn (State.reset.withFetchWord 16 0x0304) = .run .setCursor ∧
      turn (State.reset.withFetchWord 8 0b111010) = .run (.dataWrite true false) ∧
      turn (State.reset.withFetchWord 8 0b10) = .run (.put false) := by decide

/-! ### The FIFO: vectors V-F, `N` = 4 -/

theorem test_put_wraps_and_fills :
    (nextOf (exec (.put false) { held 4 1 [0x11, 0x12, 0x13] with
      pins := { Inputs.quiet with putData := 0x14 } })).map
      (fun t => (t.wrIdx, t.fill, t.putErr, t.ring)) =
      some (1, .full, false, [(0, 0x14), (1, 0x11), (2, 0x12), (3, 0x13)]) := by decide
theorem test_put_and_get_at_full :
    (nextOf (exec (.put true) (held 4 1 [0x11, 0x12, 0x13, 0x14]))).map
      (fun t => (t.putErr, t.getErr, t.getData, t.rdIdx, t.wrIdx, t.fill)) =
      some (true, false, 0x11, 2, 1, .partial_) := by decide
theorem test_get_drains_in_order :
    (getAll 4 (held 4 1 [0x11, 0x12, 0x13, 0x14])).map (fun r => (r.1, r.2.rdIdx, r.2.fill)) =
      some ([0x11, 0x12, 0x13, 0x14], 1, .empty) := by decide
theorem test_get_refused_at_empty :
    (nextOf (exec .get (held 4 1 []))).map (fun t => (t.getErr, t.rdIdx, t.fill)) =
      some (true, 1, .empty) := by decide
theorem test_state_reads_the_level :
    (nextOf (exec .state (held 4 1 [0x11]))).map fillO = some 0b01 := by decide

/-! ### Bus events: vectors V-C and V-R -/

theorem test_addressWrite_opens_a_transaction :
    (nextOf (step (eventOf 0b10010 0x7E State.reset))).map (fun t => (t.addrConsumed, t.bts, t.evtPend, t.emitted)) =
      some (true, .inAddressPhase, false, [.classValid .addressWrite, .clrOv, .clkRelease]) := by decide
theorem test_addressRead_closes_it :
    (nextOf (step (eventOf 0b10110 0 { State.reset with addrConsumed := true, rxIdx := 2 }))).map
      (fun t => (t.addrConsumed, t.rxIdx, t.emitted)) =
      some (false, 0, [.classValid .addressRead, .clkRelease]) := by decide
theorem test_dataWrite_completes_a_two_byte_frame :
    (nextOf (step (eventOf 0b11001 0x02 { held 4 0 [0x01] with addrConsumed := true, rxIdx := 1 }))).map
      (fun t => (t.rxIdx, t.declSize, t.completedFrameCount, unread t)) = some (2, 1, 1, [0x01, 0x02]) := by decide
theorem test_dataWrite_loses_a_byte_at_full :
    (nextOf (step (eventOf 0b11010 0x02 { held 1 0 [0x55] with addrConsumed := true, rxIdx := 1 }))).map
      (fun t => (t.completedFrameCount, unread t, t.emitted)) =
      some (1, [0x55], [.classValid .dataWrite, .clrOv, .rxRd, .rxLost, .clkRelease]) := by decide
theorem test_dataRead_waits_for_the_collision :
    (nextOf (step { eventOf 0b11100 0 State.reset with
      pins := { Inputs.quiet with snap := 0b11100, wcol := true } })).map
      (fun t => (t.evtPend, t.bts, t.emitted)) =
      some (true, .awaitingAddress, [.classValid .dataRead, .clrWcol]) := by decide
theorem test_dataRead_releases_the_clock :
    (nextOf (step (eventOf 0b11110 0 State.reset))).map (fun t => (t.evtPend, t.bts, t.emitted)) =
      some (false, .inDataPhase, [.classValid .dataRead, .clrWcol, .clkRelease]) := by decide
theorem test_idle_stores_nothing :
    (nextOf (step (eventOf 0b11010 0x41 State.reset))).map (fun t => (t.evtPend, t.fill, t.rxIdx, t.bts, t.emitted)) =
      some (false, .empty, 0, .awaitingAddress, []) := by decide

/-! ### Frame commands: scenarios S-A to S-D and vectors V-D, as whole cycles -/

theorem test_cycle_clearDisplay :
    cycle 7 (ready (after 4 callDone) [0x01, 0x02]) = some ([.clear], .ok, []) := by decide
theorem test_cycle_returnHome : cycle 7 (ready (after 4 callDone) [0x02, 0x02]) = some ([.home], .ok, []) := by decide
theorem test_cycle_setCursor :
    cycle 9 (ready (after 6 callDone) [0x03, 0x04, 0x02, 0x05]) = some ([.setCursor 2 5], .ok, []) := by decide
theorem test_cycle_setCursor_cut :
    cycle 9 (ready (after 6 reportDone) [0x03, 0x04, 0x02]) = some ([.bufferEmpty], .bufferEmpty, []) := by decide
theorem test_cycle_putChar :
    cycle 8 (ready (after 5 callDone) [0x04, 0x03, 0x00]) = some ([.putChar 0], .ok, []) := by decide
theorem test_cycle_controlDisplay :
    cycle 10 (ready (after 7 callDone) [0x06, 0x05, 0x01, 0x00, 0x01]) = some ([.setControl 1 0 1], .ok, []) := by decide
theorem test_cycle_controlDisplay_conflated :
    cycle 10 { ready (after 7 callDone) [0x06, 0x05, 0x01, 0x00, 0x01] with
      params := { n := 8, blinkConflate := true, addrEventReadsData := false } } =
      some ([.setControl 1 0 0], .ok, []) := by decide
theorem test_cycle_putString :
    cycle 14 (ready (after 5 callDone ++ after 2 callDone ++ after 2 callDone)
      [0x05, 0x05, 0x48, 0x69, 0x21]) =
      some ([.putChar 0x48, .putChar 0x69, .putChar 0x21], .ok, []) := by decide
theorem test_cycle_putString_cut :
    cycle 14 (ready (after 5 callDone ++ after 2 callDone ++ after 2 reportDone)
      [0x05, 0x05, 0x48, 0x69]) =
      some ([.putChar 0x48, .putChar 0x69, .bufferEmpty], .bufferEmpty, []) := by decide
theorem test_cycle_putStringShort :
    cycle 5 (ready [] [0x05, 0x01]) = some ([], .malformedFrame, []) := by decide
theorem test_cycle_clearDisplayWrongSize :
    cycle 5 (ready [] [0x01, 0x05, 0xAA]) = some ([], .malformedFrame, [0xAA]) := by decide
theorem test_cycle_returnHomeWrongSize :
    cycle 5 (ready [] [0x02, 0x03]) = some ([], .malformedFrame, []) := by decide
theorem test_cycle_setCursorWrongSize :
    cycle 5 (ready [] [0x03, 0x02]) = some ([], .malformedFrame, []) := by decide
theorem test_cycle_putCharWrongSize :
    cycle 5 (ready [] [0x04, 0x04, 0x41, 0x42]) = some ([], .malformedFrame, [0x41, 0x42]) := by decide
theorem test_cycle_controlDisplayWrongSize :
    cycle 5 (ready [] [0x06, 0x04, 0x01, 0x00]) = some ([], .malformedFrame, [0x01, 0x00]) := by decide
theorem test_cycle_unknown : cycle 5 (ready [] [0x07, 0x04, 0xAA, 0xBB]) = some ([], .ok, [0xAA, 0xBB]) := by decide

/-! ### Witnesses: states that meet the hypotheses of the statements -/

theorem witness_PutFollowsItsRule :
    ((held 4 1 [1, 2]).fill ≠ .full ∧ (held 4 1 [1, 2]).wrIdx + 1 = (held 4 1 [1, 2]).params.n) ∧
      ((held 1 0 []).fill ≠ .full ∧ (held 1 0 []).wrIdx < (held 1 0 []).params.n) ∧
      (held 4 1 [1, 2, 3, 4]).fill = .full := by decide
theorem witness_GetFollowsItsRule :
    ((held 4 3 [1, 2]).fill ≠ .empty ∧ (held 4 3 [1, 2]).rdIdx + 1 = (held 4 3 [1, 2]).params.n) ∧
      ((held 4 0 [1]).fill ≠ .empty ∧ (held 4 0 [1]).rdIdx < 4) ∧ (held 4 3 []).fill = .empty := by decide
theorem witness_SameStepPutAndGet :
    (FifoInv (held 4 2 []) ∧ (held 4 2 []).fill = .empty) ∧
      (FifoInv (held 4 3 [1, 2]) ∧ (held 4 3 [1, 2]).fill = .partial_) ∧
      (FifoInv (held 4 1 [1, 2, 3, 4]) ∧ (held 4 1 [1, 2, 3, 4]).fill = .full) ∧
      (FifoInv (held 1 0 [1]) ∧ (held 1 0 [1]).fill = .full) ∧ FifoInv (held 1 0 []) := by decide
theorem witness_SameStepPairEqualsSequentialOrder :
    (FifoInv (held 4 2 []) ∧ (held 4 2 []).fill ≠ .full) ∧
      (FifoInv (held 4 1 [1, 2, 3, 4]) ∧ (held 4 1 [1, 2, 3, 4]).fill ≠ .empty) := by decide
theorem witness_FillAndIndicesFollowTheCount :
    FifoInv (held 4 3 []) ∧ (held 4 3 []).fill = .empty ∧ FifoInv (held 1 0 []) := by decide
theorem witness_QueueLaw :
    FifoInv (held 4 3 []) ∧ (held 4 3 []).fill = .empty ∧
      (fifoRun [(0b10, 7), (0b11, 8), (0b01, 0)] (held 4 3 [])).map (fun r => (r.1, r.2.1)) =
        some ([7, 8], [7, 8]) := by decide
theorem witness_RingRefinesAQueue :
    (FifoInv (held 4 3 [1, 2]) ∧ (held 4 3 [1, 2]).fill ≠ .full ∧ unread (held 4 3 [1, 2]) = 1 :: [2]) ∧
      (FifoInv (held 4 1 [1, 2, 3, 4]) ∧ (held 4 1 [1, 2, 3, 4]).fill = .full) ∧
      (FifoInv (held 4 3 []) ∧ unread (held 4 3 []) = []) := by decide
theorem witness_RingHoldsExactlyNBytes :
    FifoInv (held 4 3 []) ∧ (held 4 3 []).fill = .empty ∧
      ([1, 2, 3, 4] : List Byte).length = (held 4 3 []).params.n := by decide
theorem witness_DataWriteFollowsItsRule :
    ((held 4 1 [1, 2]).fill ≠ .full ∧ (held 4 1 [1, 2]).wrIdx < (held 4 1 [1, 2]).params.n) ∧
      (held 4 1 [1, 2, 3, 4]).fill = .full := by decide
theorem witness_DataReadWaitsForCollisionClear :
    (State.reset.rxHold = none ∧ State.reset.pins.wcol = false) ∧
      (let s := { State.reset with pins := { Inputs.quiet with wcol := true } }
       s.rxHold = none ∧ s.pins.wcol = true) ∧
      (let s := { State.reset with rxHold := some 0b011100, pins := { Inputs.quiet with wcol := true } }
       s.rxHold ≠ none ∧ s.pins.wcol = true) ∧
      (let s := { State.reset with rxHold := some 0b011100 }
       s.rxHold ≠ none ∧ s.pins.wcol = false) := by decide
theorem witness_ReceiveStepRunsTheClassOfTheTruthTable :
    let s := eventOf 0b11010 0x41 State.reset
    s.pins.rst = false ∧ s.pins.fifo = none ∧ s.evtPend = true ∧ s.rxMask = false ∧ s.rxHold = none := by decide
theorem witness_AddrConsumedFollowsAddressEvents :
    (∃ t, step (eventOf 0b10010 0 State.reset) = .next t ∧
      (eventOf 0b10010 0 State.reset).addrConsumed = false ∧ t.addrConsumed = true) ∧
    (∃ t, step (eventOf 0b10110 0 { State.reset with addrConsumed := true }) = .next t ∧
      (eventOf 0b10110 0 { State.reset with addrConsumed := true }).addrConsumed = true ∧ t.addrConsumed = false) :=
  ⟨⟨_, rfl, rfl, rfl⟩, ⟨_, rfl, rfl, rfl⟩⟩
theorem witness_FrameIsCountedOnceAtItsLastByte :
    FifoInv (held 4 1 [1, 2]) ∧
      (2 ≤ (2 : Byte).toNat ∧ ([] : List Byte).length + 2 = (2 : Byte).toNat) ∧
      (2 ≤ (255 : Byte).toNat ∧ (List.replicate 253 (0 : Byte)).length + 2 = (255 : Byte).toNat) :=
  ⟨by decide, by decide, by decide, by rw [List.length_replicate]; decide⟩
theorem witness_DispatchFollowsItsTable :
    ({ State.reset with dstate := .dispatch } : State).dstate = .dispatch ∧
      (Instr.putStringShort 1 = .putStringShort 1 ∨ Instr.putStringShort 1 = .clearDisplayWrongSize 1) := by decide
theorem witness_DispatchChecksTheSizeByIdentifier :
    ({ State.reset with dstate := .dispatch, frameId := 5, frameSize := 2 } : State).dstate = .dispatch ∧
      ({ State.reset with dstate := .dispatch, frameId := 5, frameSize := 1 } : State).dstate = .dispatch := by decide
theorem witness_CallStepOffersTheCommandsCall :
    ({ State.reset with dstate := .call } : State).dstate = .call := by decide
theorem witness_GetPayloadLoadsTheNextArgument :
    (let s := { held 4 1 [1, 2] with dstate := .getPayload, payCnt := 2, payNeed := 3 }
     s.dstate = .getPayload ∧ s.fill ≠ .empty ∧ s.rdIdx < s.params.n ∧ s.payCnt ≠ 3) ∧
      (let s := { held 4 1 [] with dstate := .getPayload }
       s.dstate = .getPayload ∧ s.fill = .empty) := by decide
theorem witness_WaitDispEndsACommandOfOneCall :
    (let s := { State.reset with dstate := .waitDisp }
     s.dstate = .waitDisp ∧ s.pins.dispDone = false) ∧
      (let s := { State.reset with dstate := .waitDisp, pins := callDone }
       s.dstate = .waitDisp ∧ s.pins.dispDone = true) := by decide
theorem witness_WaitDispCountsACharacter :
    (let s := { State.reset with dstate := .waitDisp, remaining := 2 }
     s.dstate = .waitDisp ∧ s.remaining ≠ 0 ∧ s.pins.dispDone = false) ∧
      (let s := { State.reset with dstate := .waitDisp, pins := callDone, remaining := 2 }
       s.dstate = .waitDisp ∧ s.remaining ≠ 0 ∧ s.pins.dispDone = true ∧ s.remaining ≠ 1) ∧
      (let s := { State.reset with dstate := .waitDisp, pins := callDone, remaining := 1 }
       s.dstate = .waitDisp ∧ s.remaining ≠ 0 ∧ s.pins.dispDone = true ∧ s.remaining = 1) := by decide
theorem witness_IdleStartsOnACountedFrame :
    let s := ready [] [0x01, 0x02]
    s.pins.rst = false ∧ s.pins.fifo = none ∧ receiveEnabled s = false ∧ s.dstate = .idle := by decide
theorem witness_HeaderIsFetchedByTwoGets :
    (let s := { ready [] [0x01, 0x02] with dstate := .getId }
     s.pins.rst = false ∧ s.pins.fifo = none ∧ receiveEnabled s = false ∧ s.rdIdx < s.params.n ∧
       s.dstate = .getId ∧ s.fill ≠ .empty) ∧
      (let s := { ready [] [] with dstate := .getSize }
       s.pins.rst = false ∧ s.pins.fifo = none ∧ receiveEnabled s = false ∧ s.rdIdx < s.params.n ∧
         s.dstate = .getSize ∧ s.fill = .empty) := by decide
theorem witness_BufferEmptyIsReportedThenEnds :
    (let s := { ready [] [] with dstate := .report }
     s.pins.rst = false ∧ s.pins.fifo = none ∧ receiveEnabled s = false ∧ s.dstate = .report) ∧
      (let s := { State.reset with dstate := .waitDiag, rxMask := true, diagValid := true }
       s.pins.rst = false ∧ s.pins.fifo = none ∧ receiveEnabled s = false ∧ s.dstate = .waitDiag ∧
         s.pins.diagDone = false) ∧
      (let s := { ready [] [] with dstate := .waitDiag, rxMask := true, diagValid := true, pins := reportDone }
       s.pins.rst = false ∧ s.pins.fifo = none ∧ receiveEnabled s = false ∧ s.dstate = .waitDiag ∧
         s.pins.diagDone = true) := by decide
theorem witness_DoneCountsTheFrameOff :
    let s := { ready [] [] with dstate := .done }
    s.pins.rst = false ∧ s.pins.fifo = none ∧ receiveEnabled s = false ∧ s.dstate = .done := by decide

/-! The runs of these witnesses keep the environment's duties too. -/

theorem witness_FixedCommandCycleShowsItsCall :
    (let s := ready (after 4 callDone) [0x01, 0x02, 9]
     ReadyToDecode 7 s ∧ conformingRun 7 s = true ∧ unread s = 0x01 :: 0x02 :: [9]) ∧
    (let s := ready (after 4 callDone) [0x02, 0x02]
     ReadyToDecode 7 s ∧ conformingRun 7 s = true ∧ unread s = 0x02 :: 0x02 :: []) ∧
    (let s := ready (after 6 callDone) [0x03, 0x04, 1, 2]
     ReadyToDecode 9 s ∧ conformingRun 9 s = true ∧ unread s = 0x03 :: 0x04 :: 1 :: 2 :: []) ∧
    (let s := ready (after 5 callDone) [0x04, 0x03, 1]
     ReadyToDecode 8 s ∧ conformingRun 8 s = true ∧ unread s = 0x04 :: 0x03 :: 1 :: []) ∧
    (let s := ready (after 7 callDone) [0x06, 0x05, 1, 2, 3]
     ReadyToDecode 10 s ∧ conformingRun 10 s = true ∧ unread s = 0x06 :: 0x05 :: 1 :: 2 :: 3 :: []) := by
  refine ⟨?_, ?_, ?_, ?_, ?_⟩ <;> decide
theorem witness_PutStringCycleShowsEveryCharacter :
    (let s := ready (after 5 callDone ++ after 2 callDone) [0x05, 0x04, 1, 2, 9]
     ReadyToDecode (5 + 3 * 2) s ∧ conformingRun (5 + 3 * 2) s = true ∧ unread s = 0x05 :: 0x04 :: ([1, 2] ++ [9]) ∧
       ([1, 2] : List Byte).length + 2 = (0x04 : Byte).toNat) ∧
    (let s := ready [] [0x05, 0x02]
     ReadyToDecode (5 + 3 * 0) s ∧ conformingRun (5 + 3 * 0) s = true ∧ unread s = 0x05 :: 0x02 :: ([] ++ []) ∧
       ([] : List Byte).length + 2 = (0x02 : Byte).toNat) := by
  refine ⟨?_, ?_⟩ <;> decide
theorem witness_SkippedFrameConsumesOnlyItsHeader :
    (let s := ready [] [0x05, 0x01, 9]
     ReadyToDecode 5 s ∧ conformingRun 5 s = true ∧ unread s = 0x05 :: 0x01 :: [9] ∧
       ((0x05 : Byte) = 5 ∧ (0x01 : Byte).toNat < 2)) ∧
    (let s := ready [] [0x07, 0x04, 9]
     ReadyToDecode 5 s ∧ conformingRun 5 s = true ∧ unread s = 0x07 :: 0x04 :: [9] ∧
       7 ≤ (0x07 : Byte).toNat) := by
  refine ⟨?_, ?_⟩ <;> decide
theorem witness_TruncatedPutStringReportsBufferEmpty :
    (let s := ready (after 5 callDone ++ after 2 callDone ++ after 2 reportDone) [0x05, 0x05, 1, 2]
     ReadyToDecode (8 + 3 * 2) s ∧ conformingRun (8 + 3 * 2) s = true ∧ unread s = 0x05 :: 0x05 :: [1, 2] ∧
       ([1, 2] : List Byte).length + 2 < (0x05 : Byte).toNat) ∧
    (let s := ready (after 5 reportDone) [0x05, 0x03]
     ReadyToDecode (8 + 3 * 0) s ∧ conformingRun (8 + 3 * 0) s = true ∧ unread s = 0x05 :: 0x03 :: [] ∧
       ([] : List Byte).length + 2 < (0x03 : Byte).toNat) := by
  refine ⟨?_, ?_⟩ <;> decide
theorem witness_TruncatedFrameReportsBufferEmpty :
    (let s := ready (after 2 reportDone) []
     ReadyToDecode 5 s ∧ conformingRun 5 s = true ∧ unread s = []) ∧
    (let s := ready (after 3 reportDone) [0x03]
     ReadyToDecode 6 s ∧ conformingRun 6 s = true ∧ unread s = [0x03]) ∧
    (let s := ready (after 5 reportDone) [0x04, 0x03]
     ReadyToDecode 8 s ∧ conformingRun 8 s = true ∧ unread s = [0x04, 0x03]) ∧
    (let s := ready (after 6 reportDone) [0x03, 0x04, 2]
     ReadyToDecode 9 s ∧ conformingRun 9 s = true ∧ unread s = [0x03, 0x04, 2]) ∧
    (let s := ready (after 7 reportDone) [0x06, 0x05, 1, 0]
     ReadyToDecode 10 s ∧ conformingRun 10 s = true ∧ unread s = [0x06, 0x05, 1, 0]) := by
  refine ⟨?_, ?_, ?_, ?_, ?_⟩ <;> decide

/-- A put_char call offered in WAIT_DISP. -/
def offered (q : Inputs) : State :=
  { ready [] [0x41] with
    dstate := .waitDisp, frameId := 4, frameSize := 3, payNeed := 1, payCnt := 1, rxMask := true,
    dispValid := true, dispOp := .putChar, pins := q }

/-- A BufferEmpty report offered in WAIT_DIAG. -/
def reporting (q : Inputs) : State :=
  { ready [] [] with dstate := .waitDiag, rxMask := true, diagValid := true, diagCode := .bufferEmpty, pins := q }

theorem witness_DonePulseCompletesWhatIsOffered :
    (BlockInv (offered callDone) ∧ DutiesKept (offered callDone) ∧ callDone.dispDone = true) ∧
      (BlockInv (reporting reportDone) ∧ DutiesKept (reporting reportDone) ∧ reportDone.diagDone = true) := by
  refine ⟨⟨?_, ?_, ?_⟩, ?_, ?_, ?_⟩ <;> decide
/-- A data-write event held off by the report's mask window, and the state after two steps, when the window closes. -/
def deferred : State :=
  let q : Inputs := { Inputs.quiet with snap := 0b11010, rxData := 7 }
  { reporting q with
    evtPend := true, addrConsumed := true, bts := .inDataPhase, upcoming := [{ q with diagDone := true }, q] }

theorem witness_DeferredEventIsHandledWithItsSnapshot :
    (BlockInv deferred ∧ deferred.evtPend = true ∧ deferred.rxMask = true ∧ conformingRun 3 deferred = true) ∧
      ((runTrace 2 deferred).map fun r => (r.2.rxMask, r.2.pins.rst)) = some (false, false) ∧
      ∀ j < 2, ((runTrace j deferred).map fun r => (r.2.rxMask, r.2.pins.rst)) = some (true, false) := by
  refine ⟨⟨?_, ?_, ?_, ?_⟩, ?_, ?_⟩ <;> decide
/-- An event for the block's address, raised and handled in a conforming run. -/
theorem test_conforming_run_handles_an_event :
    conformingRun 1 { State.reset with pins := { Inputs.quiet with evt := true, evtAddr := Config.busAddr } } = true := by
  have h : DutiesKept { State.reset with pins := { Inputs.quiet with evt := true, evtAddr := Config.busAddr } } :=
    ⟨fun _ => rfl, fun _ => rfl, by decide, by decide, by decide, rfl⟩
  rw [conformingRun_succ]
  exact ⟨h, fun t ht => by cases ht; exact ⟨fun _ => ⟨rfl, rfl⟩, rfl⟩⟩
theorem test_duties_forbid_an_event_on_a_held_bus :
    ¬ DutiesKept { State.reset with
      evtPend := true, pins := { Inputs.quiet with evt := true, snap := 0b10010 } } := by
  rintro ⟨h, _⟩
  exact absurd (h rfl) (by decide)
theorem test_duties_forbid_a_done_pulse_for_no_call : ¬ DutiesKept { State.reset with pins := callDone } := by decide

theorem witness_StepRunsTheDecodedInstruction_strobe :
    let s : State := { held 4 1 [1, 2] with pins := { Inputs.quiet with fifo := some 0b11 } }
    s.pins.rst = false ∧ (Instr.put true).wf = true ∧ s.pins.fifo = some 0b11 ∧
      decode .fifoPort [BitVec.zeroExtend 8 (0b11 : PortWord)] = .ok (.put true, []) ∧
      ∃ t, exec (.put true) { s with emitted := [] } = .next t :=
  ⟨rfl, rfl, rfl, rfl, _, rfl⟩
theorem witness_StepRunsTheDecodedInstruction_event :
    let s := eventOf 0b10010 0 State.reset
    s.pins.rst = false ∧ (Instr.addressWrite false true false).wf = true ∧ s.pins.fifo = none ∧
      receiveEnabled s = true ∧
      decode .snapshotKey [keyByte (eventKey s)] = .ok (.addressWrite false true false, []) ∧
      ∃ t, exec (.addressWrite false true false) { s with emitted := [] } = .next t :=
  ⟨rfl, rfl, rfl, rfl, rfl, _, rfl⟩
theorem witness_StepRunsTheDecodedInstruction_header :
    let s : State := { State.reset with dstate := .dispatch, frameId := 1, frameSize := 2 }
    s.pins.rst = false ∧ Instr.clearDisplay.wf = true ∧ s.pins.fifo = none ∧ receiveEnabled s = false ∧
      (s.dstate = .dispatch ∨ inCommand s = true) ∧
      decode .frameHdr [s.frameId, s.frameSize] = .ok (.clearDisplay, []) ∧
      ∃ t, exec .clearDisplay { s with emitted := [] } = .next t :=
  ⟨rfl, rfl, rfl, rfl, .inl rfl, rfl, _, rfl⟩
theorem witness_ReceiveStepPreemptsTheDecoder :
    ∃ t, step { eventOf 0b10010 0 State.reset with dstate := .call } = .next t ∧
      (let s : State := { eventOf 0b10010 0 State.reset with dstate := .call }
       s.pins.rst = false ∧ s.pins.fifo = none ∧ s.evtPend = true ∧ s.rxMask = false) :=
  ⟨_, rfl, by decide⟩
theorem witness_MaskHoldsTheReceivePath :
    let s := eventOf 0b10010 0 (reporting Inputs.quiet)
    ∃ t, step s = .next t ∧ s.pins.rst = false ∧ s.pins.fifo = none ∧ s.rxMask = true ∧ s.evtPend = true ∧
      BlockInv s :=
  ⟨_, rfl, by decide⟩
theorem witness_DecoderStepWritesOnlyItsOwn :
    ∃ t, step { held 4 1 [1, 2] with dstate := .getId } = .next t ∧
      (let s : State := { held 4 1 [1, 2] with dstate := .getId }
       s.pins.rst = false ∧ s.pins.fifo = none ∧ receiveEnabled s = false) :=
  ⟨_, rfl, by decide⟩
theorem witness_FrameCountChangesOnlyAtItsTwoPlaces :
    (∃ t, step (eventOf 0b11010 2 { held 4 0 [1] with addrConsumed := true, rxIdx := 1 }) = .next t ∧
      State.reset.pins.rst = false ∧ t.completedFrameCount = 1) ∧
    (∃ t, step { ready [] [] with dstate := .done } = .next t ∧ callDone.rst = false ∧ t.completedFrameCount = 0) :=
  ⟨⟨_, rfl, by decide⟩, ⟨_, rfl, by decide⟩⟩
theorem witness_ReceivingKeepsUnreadBytes :
    ∃ t, step (eventOf 0b11010 2 { held 4 0 [1] with addrConsumed := true, bts := .inDataPhase, rxIdx := 1 }) =
        .next t ∧
      (let s := eventOf 0b11010 2 { held 4 0 [1] with addrConsumed := true, bts := .inDataPhase, rxIdx := 1 }
       BlockInv s ∧ s.pins.rst = false ∧ s.pins.fifo = none ∧ s.evtPend = true ∧ s.rxMask = false) :=
  ⟨_, rfl, by decide⟩
theorem witness_ResetStepGivesResetValues :
    ({ State.reset with pins := { Inputs.quiet with rst := true }, dstate := .call } : State).pins.rst = true := by
  decide
theorem witness_EventPulseWinsOverTheClear :
    ∃ t, step { eventOf 0b10010 0 State.reset with pins := { Inputs.quiet with evt := true, snap := 0b10010 } } =
        .next t ∧ t.addrConsumed = true :=
  ⟨_, rfl, rfl⟩
theorem witness_ParametersNeverChange : ∃ t, step (ready [] [1, 2]) = .next t := ⟨_, rfl⟩
theorem witness_PutStringCallIsNeverOffered :
    ∃ t, step { State.reset with dstate := .call, frameId := 5, frameSize := 3, arg0 := 0x41 } = .next t ∧
      PortEvent.disp .putChar 0x41 0 0 ∈ t.emitted :=
  ⟨_, rfl, by decide⟩
theorem witness_EveryStepKeepsTheInvariant :
    BlockInv (ready [] [0x01, 0x02]) ∧ ∃ t, step (ready [] [0x01, 0x02]) = .next t := ⟨by decide, _, rfl⟩
theorem witness_NoStepEverStops : BlockInv (offered Inputs.quiet) := by decide
theorem witness_UnreachableStatesStopByName :
    (let s := { held 4 0 [] with wrIdx := 4 }
     s.fill ≠ .full ∧ s.params.n ≤ s.wrIdx) ∧
      (let s := { held 4 0 [1] with rdIdx := 4 }
       s.fill ≠ .empty ∧ s.params.n ≤ s.rdIdx ∧ s.fill = .partial_) ∧
      (let s := { State.reset with dstate := .call }
       s.dstate = .call) ∧
      (let s := { held 4 3 [1] with dstate := .getPayload, payCnt := 3 }
       s.dstate = .getPayload ∧ s.fill ≠ .empty ∧ s.rdIdx < s.params.n ∧ s.payCnt = 3) := by decide
theorem witness_DecodeInvertsEncode :
    (Instr.putString 2).wf = true ∧ (Instr.putStringShort 1).wf = true ∧ (Instr.unknown 7 0).wf = true ∧
      (Instr.idle 0b011010).wf = true := by decide

end Sys2Proof.Tests
end

namespace Sys2Proof.Machine

/-! ### The parameters (00_scope R7): what each operation does with them

No operation writes `params`; one lemma per operation, from the FIFO up to the step. -/

theorem ringPut_keeps_params {b : Byte} {s t : State} (h : ringPut b s = .next t) : t.params = s.params := by
  rw [ringPut_frame h]

theorem ringGet_keeps_params {s t : State} (h : ringGet s = .next t) : t.params = s.params := by
  rw [ringGet_frame h]

theorem ringPutGet_keeps_params {b : Byte} {s t : State} (h : ringPutGet b s = .next t) :
    t.params = s.params := by
  rcases ringPutGet_cases h with ⟨_, u, hget, hput⟩ | ⟨_, u, hput, hget⟩ | ⟨_, _, _, rfl⟩
  · exact (ringPut_keeps_params hput).trans (ringGet_keeps_params hget)
  · exact (ringGet_keeps_params hget).trans (ringPut_keeps_params hput)
  · rfl

theorem setArg_keeps_params {k : BitVec 2} {b : Byte} {s t : State} (h : setArg k b s = .next t) :
    t.params = s.params := by
  rcases setArg_cases h with ⟨_, rfl⟩ | ⟨_, rfl⟩ | ⟨_, rfl⟩ <;> rfl

@[simp] theorem offerCall_params (op : DispOp) (a0 a1 a2 : Byte) (s : State) :
    (offerCall op a0 a1 a2 s).params = s.params := rfl

@[simp] theorem offerReport_params (code : ErrorCode) (s : State) :
    (offerReport code s).params = s.params := rfl

@[simp] theorem endCycle_params (s : State) : (endCycle s).params = s.params := rfl

/-! #### Receive steps -/

@[simp] theorem startTransaction_params (s : State) : (startTransaction s).params = s.params := by
  rw [startTransaction_eq]

@[simp] theorem releaseAndEnd_params (s : State) : (releaseAndEnd s).params = s.params := rfl

@[simp] theorem countByte_params (b : Byte) (s : State) : (countByte b s).params = s.params := rfl

@[simp] theorem awaitCollision_params (key : Key) (s : State) :
    (awaitCollision key s).params = s.params := by
  rcases awaitCollision_cases key s with ⟨_, heq⟩ | ⟨_, heq⟩ <;> simp [heq]

theorem receiveByte_keeps_params {s t : State} (h : receiveByte s = .next t) : t.params = s.params := by
  obtain ⟨u, hput, rfl⟩ := receiveByte_cases h
  have hu : u.params = s.params := by simpa using ringPut_keeps_params hput
  by_cases herr : u.putErr = true <;> simp [herr, hu]

theorem execDataWrite_keeps_params {bf nak : Bool} {s t : State}
    (h : execDataWrite bf nak s = .next t) : t.params = s.params := by
  obtain ⟨u, hbyte, hend⟩ := andThen_eq_next.1 h
  cases hend
  simpa using receiveByte_keeps_params hbyte

theorem execDataRead_keeps_params {consumed bf nak : Bool} {s t : State}
    (h : execDataRead consumed bf nak s = .next t) : t.params = s.params := by
  unfold execDataRead at h
  split at h <;> cases h <;> simp

theorem execPut_keeps_params {getEn : Bool} {s t : State} (h : execPut getEn s = .next t) :
    t.params = s.params := by
  cases getEn with
  | true => exact ringPutGet_keeps_params h
  | false => exact ringPut_keeps_params h

/-! #### Decoder steps -/

@[simp] theorem dispatchFixed_params (need : BitVec 2) (s : State) :
    (dispatchFixed need s).params = s.params := rfl

@[simp] theorem dispatchString_params (size : Byte) (s : State) :
    (dispatchString size s).params = s.params := by
  unfold dispatchString
  split <;> rfl

@[simp] theorem dispatchMalformed_params (s : State) : (dispatchMalformed s).params = s.params := rfl

@[simp] theorem dispatchUnknown_params (s : State) : (dispatchUnknown s).params = s.params := rfl

@[simp] theorem waitDispOnce_params (s : State) : (waitDispOnce s).params = s.params := by
  rcases waitDispOnce_cases s with ⟨_, heq⟩ | ⟨_, heq⟩ <;> simp [heq]

@[simp] theorem waitDispString_params (s : State) : (waitDispString s).params = s.params := by
  rcases waitDispString_cases s with ⟨_, heq⟩ | ⟨_, _, heq⟩ | ⟨_, _, heq⟩ <;> simp [heq]

@[simp] theorem waitDiagStep_params (s : State) : (waitDiagStep s).params = s.params := by
  rcases waitDiagStep_cases s with ⟨_, heq⟩ | ⟨_, heq⟩ <;> simp [heq]

@[simp] theorem idleStep_params (s : State) : (idleStep s).params = s.params := by
  unfold idleStep
  split <;> rfl

theorem getIdStep_keeps_params {s t : State} (h : getIdStep s = .next t) : t.params = s.params := by
  obtain ⟨u, hget, ⟨_, rfl⟩ | ⟨_, rfl⟩⟩ := getIdStep_cases h <;>
    simpa using ringGet_keeps_params hget

theorem getSizeStep_keeps_params {s t : State} (h : getSizeStep s = .next t) : t.params = s.params := by
  obtain ⟨u, hget, ⟨_, rfl⟩ | ⟨_, rfl⟩⟩ := getSizeStep_cases h <;>
    simpa using ringGet_keeps_params hget

theorem getPayloadStep_keeps_params {s t : State} (h : getPayloadStep s = .next t) :
    t.params = s.params := by
  rcases getPayloadStep_cases h with ⟨_, u, hget, rfl⟩ | ⟨_, u, v, hget, harg, rfl⟩
  · simpa using ringGet_keeps_params hget
  · exact (setArg_keeps_params harg).trans (ringGet_keeps_params hget)

/-- A command keeps the parameters when its DISPATCH, its CALL and its WAIT_DISP do; GET_PAYLOAD is the same for
every command (43_decoder R202). -/
theorem commandStep_keeps_params {b w : State → State} {c : State → Result} {s t : State}
    (hb : (b s).params = s.params) (hc : ∀ u, c s = .next u → u.params = s.params)
    (hw : (w s).params = s.params) (h : commandStep b c w s = .next t) : t.params = s.params := by
  rcases commandStep_cases h with ⟨_, hpay⟩ | ⟨_, hcall⟩ | ⟨_, rfl⟩ | ⟨_, _, _, rfl⟩
  · exact getPayloadStep_keeps_params hpay
  · exact hc t hcall
  · exact hw
  · exact hb

theorem callWithArgs_keeps_params {op : DispOp} {s t : State} (h : callWithArgs op s = .next t) :
    t.params = s.params := by
  cases h
  simp

theorem callSetControl_keeps_params {s t : State} (h : callSetControl s = .next t) :
    t.params = s.params := by
  cases h
  simp

theorem noCall_ne_next {s t : State} : noCall s ≠ .next t := nofun

/-- The fixed-size commands whose call takes the arg registers as they are (43_decoder R194 to R197). -/
theorem fixedCommand_keeps_params {need : BitVec 2} {op : DispOp} {s t : State}
    (h : commandStep (dispatchFixed need) (callWithArgs op) waitDispOnce s = .next t) :
    t.params = s.params :=
  commandStep_keeps_params (by simp) (fun _ => callWithArgs_keeps_params) (by simp) h

theorem malformedStep_keeps_params {s t : State} (h : malformedStep s = .next t) :
    t.params = s.params :=
  commandStep_keeps_params (by simp) (fun _ hcall => absurd hcall noCall_ne_next) (by simp) h

/-! #### Every instruction, every turn -/

theorem exec_keeps_params {i : Instr} {s t : State} (h : exec i s = .next t) : t.params = s.params := by
  cases i with
  | clearDisplay | returnHome | setCursor | putChar => exact fixedCommand_keeps_params h
  | controlDisplay =>
    exact commandStep_keeps_params (by simp) (fun _ => callSetControl_keeps_params) (by simp) h
  | putString size =>
    exact commandStep_keeps_params (by simp) (fun _ => callWithArgs_keeps_params) (by simp) h
  | putStringShort size | clearDisplayWrongSize size | returnHomeWrongSize size
  | setCursorWrongSize size | putCharWrongSize size | controlDisplayWrongSize size =>
    exact malformedStep_keeps_params h
  | unknown id size =>
    exact commandStep_keeps_params (by simp) (fun _ hcall => absurd hcall noCall_ne_next) (by simp) h
  | addressWrite consumed bf nak | addressRead consumed bf nak => cases h; simp
  | dataWrite bf nak => exact execDataWrite_keeps_params (bf := bf) (nak := nak) h
  | dataRead consumed bf nak => exact execDataRead_keeps_params h
  | idle key => cases h; simp
  | put getEn => exact execPut_keeps_params h
  | get => exact ringGet_keeps_params h
  | state => cases h; rfl

theorem controlStep_keeps_params {c : Control} {s t : State} (h : controlStep c s = .next t) :
    t.params = s.params := by
  cases c with
  | idle => cases h; simp
  | getId => exact getIdStep_keeps_params h
  | getSize => exact getSizeStep_keeps_params h
  | report => cases h; rfl
  | waitDiag => cases h; simp
  | done => cases h; simp

theorem takeTurn_keeps_params {r : Turn} {s t : State} (h : takeTurn r s = .next t) :
    t.params = s.params := by
  cases r with
  | run i => exact exec_keeps_params h
  | control c => exact controlStep_keeps_params h

@[simp] theorem applyReset_params (s : State) : (applyReset s).params = s.params := rfl

theorem step_keeps_params {s t : State} (h : step s = .next t) : t.params = s.params := by
  rcases step_cases h with ⟨_, rfl⟩ | ⟨_, u, hturn, rfl⟩
  · simp
  · simpa using takeTurn_keeps_params hturn

/-- Settles O45: `rst` and every turn keep the parameters (log entry 4). -/
theorem parametersNeverChange : Obligations.ParametersNeverChange :=
  fun _ _ => step_keeps_params

end Sys2Proof.Machine

namespace Sys2Proof.Machine

/-! ### The receive side: what no decoder step but DONE writes (43_decoder R212) -/

/-- A state with every register the decoder may write before DONE put at its reset value: two states with the same
receive side differ in those registers at most. -/
def receiveSide (s : State) : State :=
  { State.reset with
    params := s.params
    ring := s.ring
    wrIdx := s.wrIdx
    putErr := s.putErr
    addrConsumed := s.addrConsumed
    bts := s.bts
    evtPend := s.evtPend
    rxHold := s.rxHold
    rxIdx := s.rxIdx
    declSize := s.declSize
    completedFrameCount := s.completedFrameCount
    pins := s.pins
    upcoming := s.upcoming }

@[simp] theorem receiveSide_completedFrameCount (s : State) :
    (receiveSide s).completedFrameCount = s.completedFrameCount := rfl

theorem completedFrameCount_eq_of_receiveSide {s t : State} (h : receiveSide t = receiveSide s) :
    t.completedFrameCount = s.completedFrameCount := by
  simpa using congrArg State.completedFrameCount h

@[simp] theorem receiveSide_goto (d : DState) (s : State) : receiveSide (goto d s) = receiveSide s := rfl

@[simp] theorem receiveSide_finishCycle (st : DecStatus) (s : State) :
    receiveSide (finishCycle st s) = receiveSide s := rfl

@[simp] theorem receiveSide_closeCall (s : State) : receiveSide (closeCall s) = receiveSide s := rfl

@[simp] theorem receiveSide_closeReport (s : State) : receiveSide (closeReport s) = receiveSide s := rfl

@[simp] theorem receiveSide_offerCall (op : DispOp) (a0 a1 a2 : Byte) (s : State) :
    receiveSide (offerCall op a0 a1 a2 s) = receiveSide s := rfl

@[simp] theorem receiveSide_reportStep (s : State) : receiveSide (reportStep s) = receiveSide s := rfl

theorem ringGet_keeps_receiveSide {s t : State} (h : ringGet s = .next t) : receiveSide t = receiveSide s := by
  rw [ringGet_frame h]; rfl

theorem setArg_keeps_receiveSide {k : BitVec 2} {b : Byte} {s t : State} (h : setArg k b s = .next t) :
    receiveSide t = receiveSide s := by
  rcases setArg_cases h with ⟨_, rfl⟩ | ⟨_, rfl⟩ | ⟨_, rfl⟩ <;> rfl

/-! #### The parts of a command -/

@[simp] theorem receiveSide_dispatchFixed (need : BitVec 2) (s : State) :
    receiveSide (dispatchFixed need s) = receiveSide s := rfl

@[simp] theorem receiveSide_dispatchString (size : Byte) (s : State) :
    receiveSide (dispatchString size s) = receiveSide s := by
  unfold dispatchString
  split <;> rfl

@[simp] theorem receiveSide_dispatchMalformed (s : State) :
    receiveSide (dispatchMalformed s) = receiveSide s := rfl

@[simp] theorem receiveSide_dispatchUnknown (s : State) :
    receiveSide (dispatchUnknown s) = receiveSide s := rfl

@[simp] theorem receiveSide_waitDispOnce (s : State) : receiveSide (waitDispOnce s) = receiveSide s := by
  rcases waitDispOnce_cases s with ⟨_, heq⟩ | ⟨_, heq⟩ <;> simp [heq]

@[simp] theorem receiveSide_waitDispString (s : State) : receiveSide (waitDispString s) = receiveSide s := by
  rcases waitDispString_cases s with ⟨_, heq⟩ | ⟨_, _, heq⟩ | ⟨_, _, heq⟩ <;> rw [heq] <;> rfl

theorem getPayloadStep_keeps_receiveSide {s t : State} (h : getPayloadStep s = .next t) :
    receiveSide t = receiveSide s := by
  rcases getPayloadStep_cases h with ⟨_, u, hget, rfl⟩ | ⟨_, u, v, hget, harg, rfl⟩
  · exact (receiveSide_goto _ u).trans (ringGet_keeps_receiveSide hget)
  · exact (setArg_keeps_receiveSide harg).trans (ringGet_keeps_receiveSide hget)

theorem callWithArgs_keeps_receiveSide {op : DispOp} {s t : State} (h : callWithArgs op s = .next t) :
    receiveSide t = receiveSide s := by
  cases h
  simp

theorem callSetControl_keeps_receiveSide {s t : State} (h : callSetControl s = .next t) :
    receiveSide t = receiveSide s := by
  cases h
  simp

theorem noCall_keeps_receiveSide {s t : State} (h : noCall s = .next t) : receiveSide t = receiveSide s :=
  absurd h noCall_ne_next

theorem commandStep_keeps_receiveSide {b w : State → State} {c : State → Result} {s t : State}
    (hb : receiveSide (b s) = receiveSide s) (hc : c s = .next t → receiveSide t = receiveSide s)
    (hw : receiveSide (w s) = receiveSide s) (h : commandStep b c w s = .next t) :
    receiveSide t = receiveSide s := by
  rcases commandStep_cases h with ⟨_, hpay⟩ | ⟨_, hcall⟩ | ⟨_, rfl⟩ | ⟨_, _, _, rfl⟩
  · exact getPayloadStep_keeps_receiveSide hpay
  · exact hc hcall
  · exact hw
  · exact hb

/-! #### Whole decoder steps -/

/-- 43_decoder R212 for the commands: whatever a frame header decodes to. -/
theorem exec_frameHdr_keeps_receiveSide {i : Instr} {s t : State} (hfmt : i.format = .frameHdr)
    (h : exec i s = .next t) : receiveSide t = receiveSide s := by
  cases i with
  | clearDisplay | returnHome | setCursor | putChar | putString =>
    exact commandStep_keeps_receiveSide (by simp) callWithArgs_keeps_receiveSide (by simp) h
  | controlDisplay =>
    exact commandStep_keeps_receiveSide (by simp) callSetControl_keeps_receiveSide (by simp) h
  | putStringShort | clearDisplayWrongSize | returnHomeWrongSize | setCursorWrongSize | putCharWrongSize
  | controlDisplayWrongSize | unknown =>
    exact commandStep_keeps_receiveSide (by simp) noCall_keeps_receiveSide (by simp) h
  | addressWrite | dataWrite | addressRead | dataRead | idle | put | get | state => cases hfmt

/-- 43_decoder R212 for the control steps: DONE alone writes the receive side, by counting its frame off. -/
theorem controlStep_keeps_receiveSide {c : Control} {s t : State} (hc : c ≠ .done)
    (h : controlStep c s = .next t) : receiveSide t = receiveSide s := by
  cases c with
  | idle =>
    cases h
    unfold idleStep
    split <;> rfl
  | getId =>
    obtain ⟨u, hget, hcase⟩ := getIdStep_cases h
    have hu : receiveSide u = receiveSide s := ringGet_keeps_receiveSide hget
    rcases hcase with ⟨_, rfl⟩ | ⟨_, rfl⟩ <;> exact hu
  | getSize =>
    obtain ⟨u, hget, hcase⟩ := getSizeStep_cases h
    have hu : receiveSide u = receiveSide s := ringGet_keeps_receiveSide hget
    rcases hcase with ⟨_, rfl⟩ | ⟨_, rfl⟩ <;> exact hu
  | report => cases h; simp
  | waitDiag =>
    cases h
    rcases waitDiagStep_cases s with ⟨_, heq⟩ | ⟨_, heq⟩ <;> simp [heq]
  | done => exact absurd rfl hc

/-! ### The frame count (10_state R24, 20_memory section 6) -/

@[simp] theorem releaseAndEnd_completedFrameCount (s : State) :
    (releaseAndEnd s).completedFrameCount = s.completedFrameCount := rfl

@[simp] theorem startTransaction_completedFrameCount (s : State) :
    (startTransaction s).completedFrameCount = s.completedFrameCount := by
  rw [startTransaction_eq]

@[simp] theorem awaitCollision_completedFrameCount (key : Key) (s : State) :
    (awaitCollision key s).completedFrameCount = s.completedFrameCount := by
  rcases awaitCollision_cases key s with ⟨_, heq⟩ | ⟨_, heq⟩ <;> simp [heq]

theorem ringPut_keeps_completedFrameCount {b : Byte} {s t : State} (h : ringPut b s = .next t) :
    t.completedFrameCount = s.completedFrameCount := by
  rw [ringPut_frame h]

theorem ringGet_keeps_completedFrameCount {s t : State} (h : ringGet s = .next t) :
    t.completedFrameCount = s.completedFrameCount :=
  completedFrameCount_eq_of_receiveSide (ringGet_keeps_receiveSide h)

theorem execPut_keeps_completedFrameCount {getEn : Bool} {s t : State} (h : execPut getEn s = .next t) :
    t.completedFrameCount = s.completedFrameCount := by
  cases getEn with
  | false => exact ringPut_keeps_completedFrameCount h
  | true =>
    rcases ringPutGet_cases h with ⟨_, u, hget, hput⟩ | ⟨_, u, hput, hget⟩ | ⟨_, _, _, rfl⟩
    · exact (ringPut_keeps_completedFrameCount hput).trans (ringGet_keeps_completedFrameCount hget)
    · exact (ringGet_keeps_completedFrameCount hget).trans (ringPut_keeps_completedFrameCount hput)
    · rfl

theorem execDataRead_keeps_completedFrameCount {consumed bf nak : Bool} {s t : State}
    (h : execDataRead consumed bf nak s = .next t) : t.completedFrameCount = s.completedFrameCount := by
  unfold execDataRead at h
  split at h <;> cases h <;> simp

/-- The bookkeeping of a data-write event counts one frame, at the frame's last byte, or none (42_receive R173). -/
theorem countByte_completedFrameCount_cases (b : Byte) (s : State) :
    (frameCompletes s.rxIdx (declSizeNow s b) = false ∧
      (countByte b s).completedFrameCount = s.completedFrameCount) ∨
    (frameCompletes s.rxIdx (declSizeNow s b) = true ∧
      (countByte b s).completedFrameCount = s.completedFrameCount + 1) := by
  cases hlast : frameCompletes s.rxIdx (declSizeNow s b) <;> simp [countByte, hlast]

theorem execDataWrite_completedFrameCount_cases {bf nak : Bool} {s t : State}
    (h : execDataWrite bf nak s = .next t) :
    t.completedFrameCount = s.completedFrameCount ∨ t.completedFrameCount = s.completedFrameCount + 1 := by
  obtain ⟨v, hbyte, hend⟩ := andThen_eq_next.1 h
  cases hend
  obtain ⟨u, hput, rfl⟩ := receiveByte_cases hbyte
  have hu : u.completedFrameCount = s.completedFrameCount := by
    simpa using ringPut_keeps_completedFrameCount hput
  have hlost : (if u.putErr then emit .rxLost u else u).completedFrameCount = s.completedFrameCount := by
    split <;> simpa
  rw [releaseAndEnd_completedFrameCount, ← hlost]
  exact (countByte_completedFrameCount_cases _ _).imp And.right And.right

theorem exec_completedFrameCount_cases {i : Instr} {s t : State} (h : exec i s = .next t) :
    t.completedFrameCount = s.completedFrameCount ∨
    (t.completedFrameCount = s.completedFrameCount + 1 ∧ ∃ bf nak, i = .dataWrite bf nak) := by
  cases i with
  | dataWrite bf nak =>
    exact (execDataWrite_completedFrameCount_cases (bf := bf) (nak := nak) h).imp_right (⟨·, bf, nak, rfl⟩)
  | addressWrite | addressRead => cases h; simp
  | dataRead consumed bf nak => exact .inl (execDataRead_keeps_completedFrameCount h)
  | idle key => cases h; simp
  | put getEn => exact .inl (execPut_keeps_completedFrameCount h)
  | get => exact .inl (ringGet_keeps_completedFrameCount h)
  | state => cases h; exact .inl rfl
  | _ => exact .inl (completedFrameCount_eq_of_receiveSide (exec_frameHdr_keeps_receiveSide rfl h))

theorem controlStep_completedFrameCount_cases {c : Control} {s t : State} (h : controlStep c s = .next t) :
    t.completedFrameCount = s.completedFrameCount ∨
    (t.completedFrameCount = s.completedFrameCount - 1 ∧ c = .done) := by
  by_cases hc : c = .done
  · subst hc
    cases h
    exact .inr ⟨rfl, rfl⟩
  · exact .inl (completedFrameCount_eq_of_receiveSide (controlStep_keeps_receiveSide hc h))

/-- Settles O40: a turn is an instruction, of which only a DataWrite counts, or a control step, of which only DONE
counts off. -/
theorem frameCountChangesOnlyAtItsTwoPlaces : Obligations.FrameCountChangesOnlyAtItsTwoPlaces := by
  intro s t hrst h
  rcases step_cases h with ⟨hreset, _⟩ | ⟨_, u, hturn, rfl⟩
  · exact absurd hreset (by simp [hrst])
  rw [endStep_completedFrameCount, ← beginStep_completedFrameCount s]
  cases hr : turn s with
  | run i =>
    rw [hr] at hturn
    rcases exec_completedFrameCount_cases hturn with hsame | ⟨hup, bf, nak, rfl⟩
    · exact .inl hsame
    · exact .inr (.inl ⟨hup, bf, nak, rfl⟩)
  | control c =>
    rw [hr] at hturn
    rcases controlStep_completedFrameCount_cases hturn with hsame | ⟨hdown, rfl⟩
    · exact .inl hsame
    · exact .inr (.inr ⟨hdown, rfl⟩)

/-! ### Reset and quiescence (10_state R40, R41; 70_reset_and_hazards R280) -/

theorem step_of_rst {s : State} (hrst : s.pins.rst = true) : step s = .next (nextInputs (applyReset s)) := by
  simp [step, hrst]

/-- Settles O42: `nextInputs` moves on the inputs alone, so each register is the one `applyReset` gives. -/
theorem resetStepGivesResetValues : Obligations.ResetStepGivesResetValues := by
  intro s hrst
  refine ⟨_, step_of_rst hrst, ?_⟩
  simp [applyReset, State.reset, txAvailO]

/-- 00_scope R12: with no event coming and no strobe, a step of a quiescent state only ends the last pulses. -/
theorem step_of_quiescent {s : State} (hq : Quiescent s) (hrst : s.pins.rst = false)
    (hevt : s.pins.evt = false) (hfifo : s.pins.fifo = none) : step s = .next (nextInputs (beginStep s)) := by
  obtain ⟨hpend, hidle, hcount⟩ := hq
  have hturn : turn s = .control .idle := by simp [turn, hfifo, receiveEnabled, hpend, decoderTurn, hidle]
  have hstay : idleStep (beginStep s) = beginStep s := by simp [idleStep, hcount]
  have hkeep : evtPendAfter s.pins.evt s.evtPend = s.evtPend := by simp [evtPendAfter, hevt]
  have hend : endStep (beginStep s) = nextInputs (beginStep s) := by simp [endStep, beginStep, hkeep]
  simp [step, hrst, hturn, takeTurn, controlStep, hstay, hend]

theorem quiescent_reset : Quiescent State.reset := ⟨rfl, rfl, rfl⟩

/-- Settles O44. The inputs at reset are quiet already, so moving them on changes nothing (log entry 2). -/
theorem resetIsQuiescent : Obligations.ResetIsQuiescent := by
  have hstay : nextInputs (beginStep State.reset) = State.reset := rfl
  exact ⟨quiescent_reset, by rw [step_of_quiescent quiescent_reset rfl rfl rfl, hstay]⟩

/-! #### The invariant after reset, from any state -/

/-- The FIFO is Empty after reset, so what its invariant says of unread slots is void; the RAM is the old one. -/
theorem fifoInv_applyReset {s : State} (hn : 1 ≤ s.params.n) (hwf : Memory.wf s.ring = true)
    (hring : ∀ c ∈ s.ring, c.1 < s.params.n) : FifoInv (applyReset s) := by
  have hindices : (applyReset s).fill = .partial_ ↔ (applyReset s).rdIdx ≠ (applyReset s).wrIdx := by
    simp [applyReset, State.reset]
  have hcount : unreadCount (applyReset s) = 0 := rfl
  exact ⟨hn, hn, hn, hindices, hwf, hring, by simp [hcount]⟩

theorem receiveInv_applyReset (s : State) : ReceiveInv (applyReset s) :=
  ⟨by simp [applyReset, State.reset], by simp [applyReset, State.reset]⟩

theorem decoderInv_applyReset (s : State) : DecoderInv (applyReset s) := by
  simp [DecoderInv, applyReset, State.reset, inCommand]

/-- Settles O47: State.reset is its own reset, and its ring lists nothing (log entry 5). -/
theorem resetMeetsTheInvariant : Obligations.ResetMeetsTheInvariant :=
  have hfifo : FifoInv (applyReset State.reset) :=
    fifoInv_applyReset (by decide) Memory.wf_reset (by simp [State.reset])
  ⟨hfifo, receiveInv_applyReset State.reset, decoderInv_applyReset State.reset⟩

end Sys2Proof.Machine

namespace Sys2Proof.Machine

/-! ### The ring counted: indices and `fill` from the number of unread bytes (10_state R20, R21) -/

/-- Steps of fewer than `n` from one slot tell the slots of the ring apart. -/
theorem slot_eq_iff {n j k : Nat} (r : Nat) (hj : j < n) (hk : k < n) : (r + j) % n = (r + k) % n ↔ j = k := by
  constructor
  · intro h
    exact Nat.ModEq.eq_of_lt_of_lt (Nat.ModEq.add_left_cancel' r h) hj hk
  · rintro rfl; rfl

/-- Fewer than `n` steps lead back to their start only when there are none. -/
theorem slot_eq_self_iff {n r k : Nat} (hr : r < n) (hk : k < n) : (r + k) % n = r ↔ k = 0 := by
  simpa [Nat.mod_eq_of_lt hr] using slot_eq_iff r hk (Nat.zero_lt_of_lt hr)

/-- The level of a ring of `n` slots that holds `c` unread bytes (10_state R20). -/
def fillOfCount (n c : Nat) : Fill := if c = 0 then .empty else if c = n then .full else .partial_

theorem fillOfCount_eq_empty_iff {n c : Nat} : fillOfCount n c = .empty ↔ c = 0 := by
  unfold fillOfCount
  split_ifs <;> simp <;> omega

theorem fillOfCount_eq_full_iff {n c : Nat} (hn : 1 ≤ n) : fillOfCount n c = .full ↔ c = n := by
  unfold fillOfCount
  split_ifs <;> simp <;> omega

theorem fillOfCount_eq_partial_iff {n c : Nat} : fillOfCount n c = .partial_ ↔ c ≠ 0 ∧ c ≠ n := by
  unfold fillOfCount
  split_ifs <;> simp <;> omega

/-- The byte that makes the write index meet the read index is the one that fills the ring (40_fifo R130). -/
theorem fillAfterPut_eq {n r c : Nat} (hr : r < n) (hc : c < n) :
    fillAfterPut ((r + (c + 1)) % n) r = fillOfCount n (c + 1) := by
  have hmeet : (r + (c + 1)) % n = r ↔ c + 1 = n := by
    rcases Nat.lt_or_eq_of_le (Nat.succ_le_of_lt hc) with hlt | heq
    · rw [slot_eq_self_iff hr hlt]
      omega
    · simp [show c + 1 = n from heq, Nat.mod_eq_of_lt hr]
  simp [fillAfterPut, fillOfCount, hmeet]

/-- The byte that makes the read index meet the write index is the last unread one (40_fifo R131). -/
theorem fillAfterGet_eq {n r c : Nat} (hc : c < n) :
    fillAfterGet ((r + 1) % n) ((r + (c + 1)) % n) = fillOfCount n c := by
  have hmeet : (r + 1) % n = (r + (c + 1)) % n ↔ c = 0 := by
    rw [show r + (c + 1) = r + 1 + c by omega]
    simpa [eq_comm] using slot_eq_iff (r + 1) (Nat.zero_lt_of_lt hc) hc
  simp [fillAfterGet, fillOfCount, hmeet, hc.ne]

/-- `count` = `c` as the registers show it (10_state R21). -/
structure CountIs (s : State) (c : Nat) : Prop where
  rdIdx_lt : s.rdIdx < s.params.n
  le_capacity : c ≤ s.params.n
  wrIdx_eq : s.wrIdx = (s.rdIdx + c) % s.params.n
  fill_eq : s.fill = fillOfCount s.params.n c

namespace CountIs

variable {s : State} {c : Nat}

theorem one_le (h : CountIs s c) : 1 ≤ s.params.n := Nat.one_le_of_lt h.rdIdx_lt

theorem wrIdx_lt (h : CountIs s c) : s.wrIdx < s.params.n := by
  rw [h.wrIdx_eq]
  exact Nat.mod_lt _ h.one_le

theorem fill_empty_iff (h : CountIs s c) : s.fill = .empty ↔ c = 0 := by
  rw [h.fill_eq, fillOfCount_eq_empty_iff]

theorem fill_full_iff (h : CountIs s c) : s.fill = .full ↔ c = s.params.n := by
  rw [h.fill_eq, fillOfCount_eq_full_iff h.one_le]

theorem fill_partial_iff (h : CountIs s c) : s.fill = .partial_ ↔ 0 < c ∧ c < s.params.n := by
  have hle := h.le_capacity
  rw [h.fill_eq, fillOfCount_eq_partial_iff]
  omega

/-- The indices differ exactly when the count is strictly between 0 and `N`. -/
theorem rdIdx_ne_wrIdx_iff (h : CountIs s c) : s.rdIdx ≠ s.wrIdx ↔ 0 < c ∧ c < s.params.n := by
  rw [h.wrIdx_eq]
  rcases Nat.lt_or_eq_of_le h.le_capacity with hlt | rfl
  · have hslot := slot_eq_self_iff h.rdIdx_lt hlt
    omega
  · simp [Nat.mod_eq_of_lt h.rdIdx_lt]

/-- The registers show one count only: the one of `unreadCount`. -/
theorem unreadCount_eq (h : CountIs s c) : unreadCount s = c := by
  unfold unreadCount
  cases hf : s.fill with
  | empty => exact (h.fill_empty_iff.1 hf).symm
  | full => exact (h.fill_full_iff.1 hf).symm
  | partial_ =>
    have hc := (h.fill_partial_iff.1 hf).2
    have hr := h.rdIdx_lt
    have hmodeq : s.wrIdx + s.params.n - s.rdIdx ≡ c [MOD s.params.n] := by
      refine Nat.ModEq.add_right_cancel' s.rdIdx ?_
      rw [Nat.sub_add_cancel (by omega), Nat.add_comm c, Nat.ModEq, Nat.add_mod_right, h.wrIdx_eq, Nat.mod_mod]
    exact Nat.ModEq.eq_of_lt_of_lt ((Nat.mod_modEq _ _).trans hmodeq) (Nat.mod_lt _ h.one_le) hc

/-- The unread bytes, by the count the registers show. -/
theorem unread_eq (h : CountIs s c) :
    unread s = (List.range c).map fun k => Memory.read s.ring ((s.rdIdx + k) % s.params.n) := by
  rw [unread, h.unreadCount_eq]

/-- With a sound RAM under it, a count makes the FIFO's invariant. -/
theorem fifoInv (h : CountIs s c) (hwf : Memory.wf s.ring = true) (hring : ∀ d ∈ s.ring, d.1 < s.params.n)
    (hwritten : ∀ k < c, (Memory.lookup s.ring ((s.rdIdx + k) % s.params.n)).isSome = true) : FifoInv s :=
  ⟨h.one_le, h.rdIdx_lt, h.wrIdx_lt, h.fill_partial_iff.trans h.rdIdx_ne_wrIdx_iff.symm, hwf, hring,
    by rwa [h.unreadCount_eq]⟩

end CountIs

/-- The FIFO's invariant makes the registers show the count (40_fifo R134). -/
theorem FifoInv.countIs {s : State} (h : FifoInv s) : CountIs s (unreadCount s) := by
  obtain ⟨hn, hr, hw, hpartial, _⟩ := h
  cases hf : s.fill with
  | empty | full =>
    have hmeet : s.rdIdx = s.wrIdx := by simpa [hf] using hpartial
    have hn0 : s.params.n ≠ 0 := Nat.ne_zero_of_lt hr
    constructor <;> simp [unreadCount, hf, fillOfCount, ← hmeet, Nat.mod_eq_of_lt hr, hr, hn0]
  | partial_ =>
    have hapart : s.rdIdx ≠ s.wrIdx := hpartial.1 hf
    have hcount : unreadCount s = (s.wrIdx + s.params.n - s.rdIdx) % s.params.n := by rw [unreadCount, hf]
    have hlt : unreadCount s < s.params.n := hcount ▸ Nat.mod_lt _ hn
    have hwr : s.wrIdx = (s.rdIdx + unreadCount s) % s.params.n := by
      rw [hcount, Nat.add_mod_mod, Nat.add_sub_cancel' (by omega), Nat.add_mod_right, Nat.mod_eq_of_lt hw]
    have hpos : unreadCount s ≠ 0 := fun h0 => hapart (by rw [hwr, h0, Nat.add_zero, Nat.mod_eq_of_lt hr])
    exact ⟨hr, hlt.le, hwr, by simp [hf, fillOfCount, hpos, hlt.ne]⟩

theorem length_unread (s : State) : (unread s).length = unreadCount s := by simp [unread]

theorem FifoInv.fill_empty_iff {s : State} (h : FifoInv s) : s.fill = .empty ↔ unread s = [] := by
  rw [h.countIs.fill_empty_iff, ← length_unread, List.length_eq_zero_iff]

theorem FifoInv.fill_full_iff {s : State} (h : FifoInv s) : s.fill = .full ↔ (unread s).length = s.params.n := by
  rw [h.countIs.fill_full_iff, length_unread]

/-! ### `put` and `get` as instructions -/

theorem exec_put (s : State) : exec (.put false) s = ringPut s.pins.putData s := rfl

theorem exec_putGet (s : State) : exec (.put true) s = ringPutGet s.pins.putData s := rfl

theorem exec_get (s : State) : exec .get s = ringGet s := rfl

/-! ### `put` and `get` on the unread bytes (20_memory R67) -/

/-- An accepted `put` counts one byte up (40_fifo R130). -/
theorem ringPut_countIs {s t : State} {b : Byte} {c : Nat} (hs : CountIs s c) (hf : s.fill ≠ .full)
    (hput : ringPut b s = .next t) : CountIs t (c + 1) := by
  obtain ⟨hfull, _⟩ | ⟨_, _, rfl⟩ := ringPut_cases hput
  · exact absurd hfull hf
  have hroom : c < s.params.n := lt_of_le_of_ne hs.le_capacity (mt hs.fill_full_iff.2 hf)
  have hnext : nextIdx s.params s.wrIdx = (s.rdIdx + (c + 1)) % s.params.n := by
    rw [nextIdx, hs.wrIdx_eq, Nat.mod_add_mod, Nat.add_assoc]
  exact ⟨hs.rdIdx_lt, hroom, hnext, by simp only [hnext, fillAfterPut_eq hs.rdIdx_lt hroom]⟩

/-- An accepted `put` leaves its byte behind the unread ones (40_fifo R130). -/
theorem ringPut_appends {s : State} (b : Byte) (h : FifoInv s) (hf : s.fill ≠ .full) :
    ∃ t, ringPut b s = .next t ∧ FifoInv t ∧ t.putErr = false ∧ unread t = unread s ++ [b] := by
  have hs := h.countIs
  have hput := ringPut_accepts b s hf hs.wrIdx_lt
  have ht := ringPut_countIs hs hf hput
  have hroom : unreadCount s < s.params.n := ht.le_capacity
  have hlast := hs.wrIdx_eq
  obtain ⟨_, _, _, _, hwf, hring, hwritten⟩ := h
  have hwf' := Memory.wf_write _ s.wrIdx b hwf
  have hring' := Memory.write_bounded _ _ _ b hs.wrIdx_lt hring
  refine ⟨_, hput, ht.fifoInv hwf' hring' ?_, rfl, ?_⟩
  · intro k hk
    rcases Nat.lt_or_eq_of_le (Nat.lt_succ_iff.1 hk) with hlt | rfl
    · exact Memory.lookup_write_isSome _ _ _ _ (hwritten k hlt)
    · simp [← hlast]
  · have hold : ∀ k < unreadCount s, (s.rdIdx + k) % s.params.n ≠ s.wrIdx := fun k hk => by
      rw [hlast, Ne, slot_eq_iff _ (hk.trans hroom) hroom]
      exact hk.ne
    rw [ht.unread_eq, List.range_succ, List.map_append, unread]
    congr 1
    · refine List.map_congr_left fun k hk => ?_
      exact Memory.read_write_other _ _ _ _ (hold k (List.mem_range.1 hk))
    · simp [← hlast]

/-- A `put` refused by a Full ring leaves its unread bytes (40_fifo R130). -/
theorem ringPut_refused {s : State} (b : Byte) (h : FifoInv s) (hf : s.fill = .full) :
    ∃ t, ringPut b s = .next t ∧ FifoInv t ∧ t.putErr = true ∧ unread t = unread s :=
  ⟨_, ringPut_full b s hf, h, rfl, rfl⟩

/-- `k` slots on from the advanced read index are `k + 1` from the old one. -/
theorem nextIdx_add_mod (p : Config.Params) (i k : Nat) : (nextIdx p i + k) % p.n = (i + (k + 1)) % p.n := by
  rw [nextIdx, Nat.mod_add_mod, Nat.add_assoc, Nat.add_comm 1 k]

/-- An accepted `get` counts one byte down (40_fifo R131). -/
theorem ringGet_countIs {s t : State} {c : Nat} (hs : CountIs s (c + 1)) (hget : ringGet s = .next t) :
    CountIs t c := by
  obtain ⟨hempty, _⟩ | ⟨_, _, rfl⟩ := ringGet_cases hget
  · exact absurd (hs.fill_empty_iff.1 hempty) c.succ_ne_zero
  have hlt : c < s.params.n := hs.le_capacity
  refine ⟨Nat.mod_lt _ hs.one_le, hlt.le, hs.wrIdx_eq.trans (nextIdx_add_mod ..).symm, ?_⟩
  simp only [nextIdx, hs.wrIdx_eq, fillAfterGet_eq hlt]

/-- An accepted `get` takes off the first unread byte (40_fifo R131). -/
theorem ringGet_removes {s : State} (h : FifoInv s) (hf : s.fill ≠ .empty) :
    ∃ t, ringGet s = .next t ∧ FifoInv t ∧ t.getErr = false ∧ unread s = t.getData :: unread t := by
  have hs := h.countIs
  obtain ⟨c, hc⟩ : ∃ c, unreadCount s = c + 1 := Nat.exists_eq_succ_of_ne_zero (mt hs.fill_empty_iff.2 hf)
  obtain ⟨_, _, _, _, hwf, hring, hwritten⟩ := h
  rw [hc] at hs hwritten
  have hget := ringGet_accepts s hf hs.rdIdx_lt
  have ht := ringGet_countIs hs hget
  refine ⟨_, hget, ht.fifoInv hwf hring fun k hk => ?_, rfl, ?_⟩
  · simpa only [nextIdx_add_mod] using hwritten (k + 1) (Nat.succ_lt_succ hk)
  · rw [hs.unread_eq, ht.unread_eq, List.range_succ_eq_map]
    simp [nextIdx_add_mod, Nat.mod_eq_of_lt hs.rdIdx_lt]

/-- A `get` refused by an Empty ring leaves its unread bytes, of which there are none (40_fifo R131). -/
theorem ringGet_refused {s : State} (h : FifoInv s) (hf : s.fill = .empty) :
    ∃ t, ringGet s = .next t ∧ FifoInv t ∧ t.getErr = true ∧ unread t = unread s :=
  ⟨_, ringGet_empty s hf, h, rfl, rfl⟩

/-- Settles O8: `fill` tells which of the two calls is refused, and Empty is to have nothing unread. -/
theorem ringRefinesAQueue : Obligations.RingRefinesAQueue := by
  intro s h
  refine ⟨fun hf => ringPut_appends _ h hf, fun hf => ringPut_refused _ h hf, fun b rest hu => ?_, fun hu => ?_⟩
  · obtain ⟨t, hget, ht, herr, hbytes⟩ := ringGet_removes h (by simp [h.fill_empty_iff, hu])
    obtain ⟨rfl, rfl⟩ := List.cons_eq_cons.1 (hu.symm.trans hbytes)
    exact ⟨t, hget, ht, herr, rfl, rfl⟩
  · simpa only [hu, exec_get] using ringGet_refused h (h.fill_empty_iff.2 hu)

/-! ### The same-step pair (20_memory R70, 40_fifo R133) -/

theorem nextIdx_inj {p : Config.Params} {i j : Nat} (hi : i < p.n) (hj : j < p.n) :
    nextIdx p i = nextIdx p j ↔ i = j := by
  simpa [nextIdx, Nat.add_comm 1] using slot_eq_iff 1 hi hj

theorem fillAfterPut_ne_empty (w r : Nat) : fillAfterPut w r ≠ .empty := by
  unfold fillAfterPut
  split <;> simp

theorem fillAfterGet_ne_full (r w : Nat) : fillAfterGet r w ≠ .full := by
  unfold fillAfterGet
  split <;> simp

/-- From Partial the pair takes effect together: the second of the two operations, in either order, finds the indices
apart again (40_fifo R133). -/
theorem ringPutGet_partial {s : State} (b : Byte) (h : FifoInv s) (hf : s.fill = .partial_) :
    ringPutGet b s = andThen (ringGet s) (ringPut b) ∧ ringPutGet b s = andThen (ringPut b s) ringGet := by
  obtain ⟨_, hr, hw, hpartial, _⟩ := h
  have hapart : s.rdIdx ≠ s.wrIdx := hpartial.1 hf
  have hnext : nextIdx s.params s.rdIdx ≠ nextIdx s.params s.wrIdx := mt (nextIdx_inj hr hw).1 hapart
  constructor
  · rw [ringGet_accepts s (by simp [hf]) hr, andThen_next, ringPut_accepts]
    · simp [ringPutGet, hf, hr, hw, fillAfterPut, hnext.symm]
    · exact fillAfterGet_ne_full _ _
    · exact hw
  · rw [ringPut_accepts b s (by simp [hf]) hw, andThen_next, ringGet_accepts]
    · simp [ringPutGet, hf, hr, hw, fillAfterGet, hnext, Memory.read_write_other _ _ _ _ hapart]
    · exact fillAfterPut_ne_empty _ _
    · exact hr

theorem ringPutGet_eq_get_put {s : State} (b : Byte) (h : FifoInv s) (hf : s.fill ≠ .full) :
    ringPutGet b s = andThen (ringGet s) (ringPut b) := by
  cases hs : s.fill with
  | empty => simp [ringPutGet, hs]
  | partial_ => exact (ringPutGet_partial b h hs).1
  | full => exact absurd hs hf

theorem ringPutGet_eq_put_get {s : State} (b : Byte) (h : FifoInv s) (hf : s.fill ≠ .empty) :
    ringPutGet b s = andThen (ringPut b s) ringGet := by
  cases hs : s.fill with
  | empty => exact absurd hs hf
  | partial_ => exact (ringPutGet_partial b h hs).2
  | full => simp [ringPutGet, hs]

theorem ringGet_keeps_pins {s t : State} (h : ringGet s = .next t) : t.pins = s.pins := by
  rw [ringGet_frame h]

/-- After a `get`, a `put` is presented the same byte: `get` moves no input. -/
theorem andThen_ringGet_put (s : State) :
    andThen (ringGet s) (exec (.put false)) = andThen (ringGet s) (ringPut s.pins.putData) := by
  cases hget : ringGet s with
  | next t => simp only [andThen_next, exec_put, ringGet_keeps_pins hget]
  | fault e => rfl
  | refused e => rfl

/-- Settles O5. By its definition the pair is get then put from Empty and put then get from Full; from Partial it is
both. -/
theorem sameStepPairEqualsSequentialOrder : Obligations.SameStepPairEqualsSequentialOrder := fun s h =>
  ⟨fun hf => (ringPutGet_eq_get_put _ h hf).trans (andThen_ringGet_put s).symm,
    fun hf => ringPutGet_eq_put_get _ h hf⟩

/-! ### A byte presented (10_state R33) -/

/-- `s` with `b` on `put_data`, as the runs of Safety.lean present each of their bytes. -/
def presentByte (b : Byte) (s : State) : State := { s with pins := { s.pins with putData := b } }

@[simp] theorem presentByte_putData (b : Byte) (s : State) : (presentByte b s).pins.putData = b := rfl

@[simp] theorem presentByte_params (b : Byte) (s : State) : (presentByte b s).params = s.params := rfl

@[simp] theorem unread_presentByte (b : Byte) (s : State) : unread (presentByte b s) = unread s := rfl

theorem fifoInv_presentByte (b : Byte) {s : State} (h : FifoInv s) : FifoInv (presentByte b s) := h

theorem putAll_cons (b : Byte) (bs : List Byte) (s : State) :
    putAll (b :: bs) s = andThen (ringPut b (presentByte b s)) (putAll bs) := rfl

theorem fifoRun_cons {p : PortWord} {b : Byte} {s t : State} (ops : List (PortWord × Byte))
    (h : exec (decodePort p) (presentByte b s) = .next t) :
    fifoRun ((p, b) :: ops) s = (fifoRun ops t).map fun r =>
      ((if p.getLsbD 1 && !t.putErr then [b] else []) ++ r.1,
       (if p.getLsbD 0 && !t.getErr then [t.getData] else []) ++ r.2.1, r.2.2) := by
  rw [presentByte] at h
  rw [fifoRun, h]

/-! ### The queue law (20_memory R67) -/

/-- A `put` appends what it accepts. -/
theorem ringPut_queue {s : State} (b : Byte) (h : FifoInv s) :
    ∃ t, ringPut b s = .next t ∧ FifoInv t ∧ unread t = unread s ++ (if !t.putErr then [b] else []) := by
  by_cases hf : s.fill = .full
  · obtain ⟨t, hput, ht, herr, hu⟩ := ringPut_refused b h hf
    exact ⟨t, hput, ht, by simp [herr, hu]⟩
  · obtain ⟨t, hput, ht, herr, hu⟩ := ringPut_appends b h hf
    exact ⟨t, hput, ht, by simp [herr, hu]⟩

/-- A `get` takes off the front what it answers. -/
theorem ringGet_queue {s : State} (h : FifoInv s) :
    ∃ t, ringGet s = .next t ∧ FifoInv t ∧ unread s = (if !t.getErr then [t.getData] else []) ++ unread t := by
  by_cases hf : s.fill = .empty
  · obtain ⟨t, hget, ht, herr, hu⟩ := ringGet_refused h hf
    exact ⟨t, hget, ht, by simp [herr, hu]⟩
  · obtain ⟨t, hget, ht, herr, hu⟩ := ringGet_removes h hf
    exact ⟨t, hget, ht, by simp [herr, hu]⟩

/-- The pair does both, in whichever order it stands for (20_memory R70). -/
theorem ringPutGet_queue {s : State} (b : Byte) (h : FifoInv s) :
    ∃ t, ringPutGet b s = .next t ∧ FifoInv t ∧
      unread s ++ (if !t.putErr then [b] else []) = (if !t.getErr then [t.getData] else []) ++ unread t := by
  by_cases hf : s.fill = .full
  · obtain ⟨u, hput, hu, hin⟩ := ringPut_queue b h
    obtain ⟨t, hget, ht, hout⟩ := ringGet_queue hu
    have herr : t.putErr = u.putErr := by rw [ringGet_frame hget]
    refine ⟨t, ?_, ht, by rw [herr, ← hin, hout]⟩
    rw [ringPutGet_eq_put_get b h (by simp [hf]), hput, andThen_next, hget]
  · obtain ⟨u, hget, hu, hout⟩ := ringGet_queue h
    obtain ⟨t, hput, ht, hin⟩ := ringPut_queue b hu
    have herr : t.getErr = u.getErr := by rw [ringPut_frame hput]
    have hdata : t.getData = u.getData := by rw [ringPut_frame hput]
    refine ⟨t, ?_, ht, by rw [herr, hdata, hin, hout, List.append_assoc]⟩
    rw [ringPutGet_eq_get_put b h hf, hget, andThen_next, hput]

/-- The strobe word bit by bit: `put_en` is bit 1, `get_en` bit 0 (30_encoding R103). -/
theorem decodePort_eq (p : PortWord) :
    decodePort p = if p.getLsbD 1 then .put (p.getLsbD 0) else if p.getLsbD 0 then .get else .state := by
  revert p
  decide

/-- One strobe word from a good state: what it accepts goes in at the back, what it answers comes off the front. -/
theorem exec_decodePort_queue {s : State} (p : PortWord) (h : FifoInv s) :
    ∃ t, exec (decodePort p) s = .next t ∧ FifoInv t ∧
      unread s ++ (if p.getLsbD 1 && !t.putErr then [s.pins.putData] else []) =
        (if p.getLsbD 0 && !t.getErr then [t.getData] else []) ++ unread t := by
  rw [decodePort_eq]
  cases hput : p.getLsbD 1 <;> cases hget : p.getLsbD 0
  case false.false => exact ⟨s, rfl, h, by simp⟩
  case false.true => simpa [exec_get] using ringGet_queue h
  case true.false =>
    obtain ⟨t, heq, ht, hu⟩ := ringPut_queue s.pins.putData h
    exact ⟨t, heq, ht, by simp [hu]⟩
  case true.true => simpa [exec_putGet] using ringPutGet_queue s.pins.putData h

/-- The queue law from any good state: with the bytes already unread counted as put before. -/
theorem fifoRun_queue (ops : List (PortWord × Byte)) {s : State} (h : FifoInv s) :
    ∃ puts gets t, fifoRun ops s = some (puts, gets, t) ∧ FifoInv t ∧ unread s ++ puts = gets ++ unread t := by
  induction ops generalizing s with
  | nil => exact ⟨[], [], s, rfl, h, by simp⟩
  | cons op ops ih =>
    obtain ⟨p, b⟩ := op
    obtain ⟨u, hstep, hu, hone⟩ := exec_decodePort_queue p (fifoInv_presentByte b h)
    obtain ⟨puts, gets, t, hrun, ht, hrest⟩ := ih hu
    refine ⟨_, _, t, by rw [fifoRun_cons ops hstep, hrun, Option.map_some], ht, ?_⟩
    rw [unread_presentByte, presentByte_putData] at hone
    rw [← List.append_assoc, hone, List.append_assoc, hrest, List.append_assoc]

/-- Settles O7: an Empty ring has nothing put before. -/
theorem queueLaw : Obligations.QueueLaw := by
  intro s ops h hempty
  obtain ⟨puts, gets, t, hrun, _, hlaw⟩ := fifoRun_queue ops h
  exact ⟨puts, gets, t, hrun, by simpa [h.fill_empty_iff.1 hempty] using hlaw⟩

/-! ### The capacity (20_memory R75) -/

/-- As many `put` calls as there is room for are all accepted. -/
theorem putAll_appends (bs : List Byte) {s : State} (h : FifoInv s)
    (hroom : (unread s).length + bs.length ≤ s.params.n) :
    ∃ t, putAll bs s = .next t ∧ FifoInv t ∧ t.params = s.params ∧ unread t = unread s ++ bs := by
  induction bs generalizing s with
  | nil => exact ⟨s, rfl, h, rfl, by simp⟩
  | cons b bs ih =>
    rw [List.length_cons] at hroom
    have hf : s.fill ≠ .full := fun hfull => by have := h.fill_full_iff.1 hfull; omega
    obtain ⟨u, hput, hu, _, hone⟩ := ringPut_appends b (fifoInv_presentByte b h) hf
    rw [unread_presentByte] at hone
    have hup : u.params = s.params := by simpa using ringPut_keeps_params hput
    have hroom' : (unread u).length + bs.length ≤ u.params.n := by
      rw [hone, hup, List.length_append, List.length_singleton]
      omega
    obtain ⟨t, hputs, ht, hparams, hrest⟩ := ih hu hroom'
    refine ⟨t, ?_, ht, hparams.trans hup, by simp [hrest, hone]⟩
    rw [putAll_cons, hput, andThen_next, hputs]

/-- As many `get` calls as the front of the unread bytes is long return that front, all accepted. -/
theorem getAll_removes (bs : List Byte) {s : State} {rest : List Byte} (h : FifoInv s) (hs : unread s = bs ++ rest) :
    ∃ t, getAll bs.length s = some (bs, t) ∧ FifoInv t ∧ unread t = rest := by
  induction bs generalizing s with
  | nil => exact ⟨s, rfl, h, hs⟩
  | cons b bs ih =>
    have hf : s.fill ≠ .empty := fun hempty => by simp [h.fill_empty_iff.1 hempty] at hs
    obtain ⟨u, hget, hu, herr, hone⟩ := ringGet_removes h hf
    obtain ⟨hdata, hrest⟩ := List.cons_eq_cons.1 (hone.symm.trans hs)
    obtain ⟨t, hgets, ht, hleft⟩ := ih hu hrest
    refine ⟨t, ?_, ht, hleft⟩
    simp [getAll, exec_get, hget, herr, hgets, hdata]

/-- Settles O9: from Empty there is room for N bytes, and the N unread bytes are the front that N gets return. -/
theorem ringHoldsExactlyNBytes : Obligations.RingHoldsExactlyNBytes := by
  intro s bs h hempty hlen
  have hnone : unread s = [] := h.fill_empty_iff.1 hempty
  obtain ⟨t, hputs, ht, hparams, hu⟩ := putAll_appends bs h (by simp [hnone, hlen])
  rw [hnone, List.nil_append] at hu
  have hfull : t.fill = .full := ht.fill_full_iff.2 (by rw [hu, hparams, hlen])
  obtain ⟨u, hgets, hinv, hleft⟩ := getAll_removes bs (rest := []) ht (by simpa using hu)
  exact ⟨t, hputs, hfull, ringPut_full _ t hfull, u, hlen ▸ hgets, hinv.fill_empty_iff.2 hleft⟩

/-! ### The mask window (20_memory R71) -/

@[simp] theorem receiveSide_ring (s : State) : (receiveSide s).ring = s.ring := rfl
@[simp] theorem receiveSide_wrIdx (s : State) : (receiveSide s).wrIdx = s.wrIdx := rfl
@[simp] theorem receiveSide_rxIdx (s : State) : (receiveSide s).rxIdx = s.rxIdx := rfl
@[simp] theorem receiveSide_declSize (s : State) : (receiveSide s).declSize = s.declSize := rfl
@[simp] theorem receiveSide_addrConsumed (s : State) : (receiveSide s).addrConsumed = s.addrConsumed := rfl
@[simp] theorem receiveSide_bts (s : State) : (receiveSide s).bts = s.bts := rfl
@[simp] theorem receiveSide_evtPend (s : State) : (receiveSide s).evtPend = s.evtPend := rfl

theorem decodeHeader_format (h : Hdr) : (decodeHeader h).format = .frameHdr := by
  rw [← mkHdr_parts h, decodeHeader_eq]
  split_ifs <;> rfl

/-- A decoder turn runs what a header decodes to, or the control step of `dstate`. -/
theorem decoderTurn_cases (s : State) :
    decoderTurn s = .run (decodeHeader (headerOf s)) ∨
    (s.dstate = .done ∧ decoderTurn s = .control .done) ∨
    (∃ c, c ≠ Control.done ∧ decoderTurn s = .control c) := by
  unfold decoderTurn
  cases s.dstate <;> simp

/-- 43_decoder R212 for a whole decoder turn: of the receive side it may write the count alone, and that in DONE. -/
theorem decoderTurn_receiveSide {s u : State} (h : takeTurn (decoderTurn s) (beginStep s) = .next u) :
    ∃ count, receiveSide u = { receiveSide s with completedFrameCount := count } ∧
      (s.dstate ≠ .done → count = s.completedFrameCount) := by
  rcases decoderTurn_cases s with hrun | ⟨hdone, hrun⟩ | ⟨c, hc, hrun⟩ <;> rw [hrun] at h
  · exact ⟨_, exec_frameHdr_keeps_receiveSide (s := beginStep s) (decodeHeader_format _) h, fun _ => rfl⟩
  · cases h
    exact ⟨_, rfl, fun hne => absurd hdone hne⟩
  · exact ⟨_, controlStep_keeps_receiveSide (s := beginStep s) hc h, fun _ => rfl⟩

/-- While the mask is set the step is the decoder's, whatever is pending (60_exceptions R246). -/
theorem turn_of_rxMask {s : State} (hfifo : s.pins.fifo = none) (hmask : s.rxMask = true) :
    turn s = decoderTurn s := by
  simp [turn, hfifo, receiveEnabled, hmask]

/-- The mask is clear in DONE (43_decoder R203, R204). -/
theorem DecoderInv.ne_done_of_rxMask {s : State} (h : DecoderInv s) (hmask : s.rxMask = true) : s.dstate ≠ .done := by
  obtain ⟨hwindow, _⟩ := h
  rcases hwindow.1 hmask with hd | hd <;> simp [hd]

/-- Settles O36: the masked step is a decoder turn, which keeps the receive side outside DONE. -/
theorem maskHoldsTheReceivePath : Obligations.MaskHoldsTheReceivePath := by
  intro s t hrst hfifo hmask h
  obtain ⟨hreset, _⟩ | ⟨_, u, hturn, rfl⟩ := step_cases h
  · simp [hrst] at hreset
  rw [turn_of_rxMask hfifo hmask] at hturn
  obtain ⟨count, hside, hcount⟩ := decoderTurn_receiveSide hturn
  have hpend : u.evtPend = s.evtPend := by simpa using congrArg State.evtPend hside
  refine ⟨?_, ?_, ?_, ?_, ?_, ?_, fun hevt => by simp [evtPendAfter, hpend, hevt], fun ⟨_, _, hdec⟩ => ?_⟩
  · simpa using congrArg State.ring hside
  · simpa using congrArg State.wrIdx hside
  · simpa using congrArg State.rxIdx hside
  · simpa using congrArg State.declSize hside
  · simpa using congrArg State.addrConsumed hside
  · simpa using congrArg State.bts hside
  · have hu : u.completedFrameCount = count := by simpa using congrArg State.completedFrameCount hside
    rw [endStep_completedFrameCount, hu, hcount (DecoderInv.ne_done_of_rxMask hdec hmask)]

/-! ### Where an instruction stops (20_memory R62; log entries 13 and 14) -/

theorem ringPut_noSuchSlot {s : State} (b : Byte) (hf : s.fill ≠ .full) (hw : s.params.n ≤ s.wrIdx) :
    ringPut b s = .fault .noSuchSlot := by
  simp [ringPut, hf, slotExists, hw.not_gt]

theorem ringGet_noSuchSlot {s : State} (hf : s.fill ≠ .empty) (hr : s.params.n ≤ s.rdIdx) :
    ringGet s = .fault .noSuchSlot := by
  simp [ringGet, hf, slotExists, hr.not_gt]

theorem ringPutGet_noSuchSlot {s : State} (b : Byte) (hf : s.fill = .partial_)
    (h : s.params.n ≤ s.wrIdx ∨ s.params.n ≤ s.rdIdx) : ringPutGet b s = .fault .noSuchSlot := by
  have hout : ¬ (s.wrIdx < s.params.n ∧ s.rdIdx < s.params.n) := by omega
  simp [ringPutGet, hf, hout]

theorem receiveByte_noSuchSlot {s : State} (hf : s.fill ≠ .full) (hw : s.params.n ≤ s.wrIdx) :
    receiveByte s = .fault .noSuchSlot := by
  rw [receiveByte, ringPut_noSuchSlot (s := emit .rxRd s) _ hf hw, andThen_fault]

theorem execDataWrite_noSuchSlot {s : State} (bf nak : Bool) (hf : s.fill ≠ .full) (hw : s.params.n ≤ s.wrIdx) :
    execDataWrite bf nak s = .fault .noSuchSlot := by
  rw [execDataWrite, receiveByte_noSuchSlot, andThen_fault]
  · simpa using hf
  · simpa using hw

theorem commandStep_call {b w : State → State} {c : State → Result} {s : State} (hd : s.dstate = .call) :
    commandStep b c w s = c s := by
  simp [commandStep, hd]

theorem commandStep_getPayload {b w : State → State} {c : State → Result} {s : State}
    (hd : s.dstate = .getPayload) : commandStep b c w s = getPayloadStep s := by
  simp [commandStep, hd]

/-- There is no fourth arg register (10_state R28). -/
theorem setArg_three (b : Byte) (s : State) : setArg 3#2 b s = .refused .noArgRegister := rfl

theorem getPayloadStep_noArgRegister {s : State} (hf : s.fill ≠ .empty) (hr : s.rdIdx < s.params.n)
    (hcnt : s.payCnt = 3) : getPayloadStep s = .refused .noArgRegister := by
  rw [getPayloadStep, ringGet_accepts s hf hr, andThen_next]
  simp [storePayload, hcnt, setArg_three]

/-- Settles O50: the FIFO's stops from its operations, the decoder's from CALL and GET_PAYLOAD. -/
theorem unreachableStatesStopByName : Obligations.UnreachableStatesStopByName := by
  intro s id size bf nak i
  refine ⟨fun hf hw => ⟨ringPut_noSuchSlot _ hf hw, execDataWrite_noSuchSlot bf nak hf hw⟩,
    fun hf hr => ringGet_noSuchSlot hf hr, fun hf h => ringPutGet_noSuchSlot _ hf h, fun hd hi => ?_,
    fun hd hf hr hcnt hi => ?_⟩
  · rcases hi with rfl | rfl | rfl | rfl | rfl | rfl | rfl <;> exact commandStep_call hd
  · rcases hi with rfl | rfl | rfl | rfl <;>
      exact (commandStep_getPayload hd).trans (getPayloadStep_noArgRegister hf hr hcnt)

end Sys2Proof.Machine

namespace Sys2Proof.Machine

/-! ### The words of the three formats (30_encoding R91, R97, R103)

A header is two bytes, a key or a strobe word the low bits of one byte with the others 0. -/

theorem decode_header_bytes (id size : Byte) :
    decode .frameHdr [id, size] = .ok (decodeHeader (mkHdr id size), []) := rfl

theorem decode_key_byte (k : Key) : decode .snapshotKey [keyByte k] = .ok (decodeKey k, []) := by
  have hhigh : (keyByte k).extractLsb' 6 2 = 0#2 := by revert k; decide
  have hlow : (keyByte k).extractLsb' 0 6 = k := by revert k; decide
  simp [decode, hhigh, hlow]

theorem decode_port_byte (p : PortWord) :
    decode .fifoPort [p.zeroExtend 8] = .ok (decodePort p, []) := by
  have hhigh : (p.zeroExtend 8).extractLsb' 2 6 = 0#6 := by revert p; decide
  have hlow : (p.zeroExtend 8).extractLsb' 0 2 = p := by revert p; decide
  simp only [decode, hhigh, hlow, beq_self_eq_true, if_true]

/-! #### The key bit by bit (30_encoding R97, 41_classifier R156) -/

/-- A key is its six bits. -/
theorem exists_keyBits (k : Key) : ∃ c s da rw bf nak, k = keyBits c s da rw bf nak :=
  ⟨k.getLsbD 5, k.getLsbD 4, k.getLsbD 3, k.getLsbD 2, k.getLsbD 1, k.getLsbD 0, by revert k; decide⟩

/-- The key rows in terms of the bits they test; Idle takes what is left. -/
theorem decodeKey_keyBits (c s da rw bf nak : Bool) : decodeKey (keyBits c s da rw bf nak) =
    if Instr.idleKey (keyBits c s da rw bf nak) then .idle (keyBits c s da rw bf nak)
    else if da then (if rw then .dataRead c bf nak else .dataWrite bf nak)
    else (if rw then .addressRead c bf nak else .addressWrite c bf nak) := by
  revert c s da rw bf nak
  decide

/-- The patterns of the Idle row: no start seen, or a data write outside a transaction (41_classifier R155). -/
theorem idleKey_keyBits (c s da rw bf nak : Bool) :
    Instr.idleKey (keyBits c s da rw bf nak) = (!s || (da && !rw && !c)) := by
  revert c s da rw bf nak
  decide

theorem decodeKey_of_idleKey {k : Key} (h : Instr.idleKey k = true) : decodeKey k = .idle k := by
  obtain ⟨c, s, da, rw, bf, nak, rfl⟩ := exists_keyBits k
  rw [decodeKey_keyBits, if_pos h]

/-! #### Decoding an encoding -/

/-- The identifiers of the Unknown row are those that no command takes (30_encoding R95). -/
theorem unknownId_iff (id : Byte) : (id = 0#8 ∨ 7 ≤ id.toNat) ↔
    id ≠ 1#8 ∧ id ≠ 2#8 ∧ id ≠ 3#8 ∧ id ≠ 4#8 ∧ id ≠ 5#8 ∧ id ≠ 6#8 := by
  constructor
  · intro h
    refine ⟨?_, ?_, ?_, ?_, ?_, ?_⟩ <;> rintro rfl <;> simp at h
  · bv_omega

/-- Settles O52, row by row: a row's own conditions select it among the rows of its format, and well-formedness
rules out the rows that stand before it. -/
theorem decodeInvertsEncode : Obligations.DecodeInvertsEncode := by
  intro i hwf
  cases i with
  | clearDisplay | returnHome | setCursor | putChar | controlDisplay =>
    rw [Instr.format, encode, decode_header_bytes, decodeHeader_eq]
    rfl
  | putString size =>
    have hlong : ¬ size.toNat < 2 := Nat.not_lt.2 (of_decide_eq_true hwf)
    rw [Instr.format, encode, decode_header_bytes, decodeHeader_eq]
    simp [hlong]
  | putStringShort size | clearDisplayWrongSize size | returnHomeWrongSize size
  | setCursorWrongSize size | putCharWrongSize size | controlDisplayWrongSize size =>
    rw [Instr.format, encode, decode_header_bytes, decodeHeader_eq]
    simpa [Instr.wf] using hwf
  | unknown id size =>
    obtain ⟨h1, h2, h3, h4, h5, h6⟩ := (unknownId_iff id).1 (by simpa [Instr.wf] using hwf)
    rw [Instr.format, encode, decode_header_bytes, decodeHeader_eq]
    simp only [h1, h2, h3, h4, h5, h6, if_false]
  | addressWrite c bf nak | dataWrite bf nak | addressRead c bf nak | dataRead c bf nak =>
    rw [Instr.format, encode, decode_key_byte, decodeKey_keyBits, idleKey_keyBits]
    rfl
  | idle key => rw [Instr.format, encode, decode_key_byte, decodeKey_of_idleKey hwf]
  | put getEn =>
    rw [Instr.format, encode, decode_port_byte]
    cases getEn <;> rfl
  | get => exact decode_port_byte 0b01#2
  | state => exact decode_port_byte 0b00#2

/-! #### Encoding what a word decodes to -/

theorem decodeHeader_wf (id size : Byte) : (decodeHeader (mkHdr id size)).wf = true := by
  rw [decodeHeader_eq]
  split_ifs <;> simp_all [Instr.wf, unknownId_iff]
  case neg hsize => omega

theorem encode_decodeHeader (id size : Byte) : encode (decodeHeader (mkHdr id size)) = [id, size] := by
  rw [decodeHeader_eq]
  split_ifs <;> simp_all [encode]

/-- Idle's operand is the whole key; any other row fixes the bits it tests, and its operands are the rest. -/
theorem decodeKey_sound (k : Key) :
    (decodeKey k).wf = true ∧ (decodeKey k).format = .snapshotKey ∧ encode (decodeKey k) = [keyByte k] := by
  obtain ⟨c, s, da, rw, bf, nak, rfl⟩ := exists_keyBits k
  cases hidle : Instr.idleKey (keyBits c s da rw bf nak) with
  | true => rw [decodeKey_of_idleKey hidle]; exact ⟨hidle, rfl, rfl⟩
  | false =>
    have hbits : s = true ∧ (da = true → rw = false → c = true) := by simpa [idleKey_keyBits] using hidle
    obtain ⟨rfl, hdata⟩ := hbits
    rw [decodeKey_keyBits, hidle]
    cases da <;> cases rw
    case true.false =>
      obtain rfl := hdata rfl rfl
      exact ⟨rfl, rfl, rfl⟩
    all_goals exact ⟨rfl, rfl, rfl⟩

theorem decodePort_sound (p : PortWord) :
    (decodePort p).wf = true ∧ (decodePort p).format = .fifoPort ∧ encode (decodePort p) = [p.zeroExtend 8] := by
  revert p
  decide

/-- Settles O53, format by format. -/
theorem everyWordHasOneMeaning : Obligations.EveryWordHasOneMeaning :=
  ⟨fun id size => ⟨decodeHeader_wf id size, decodeHeader_format _, encode_decodeHeader id size⟩,
    decodeKey_sound, decodePort_sound⟩

/-! #### The tables' codes and words -/

/-- Settles O51: each code map, run over its whole enumeration. -/
theorem portsCarryTheirCodes : Obligations.PortsCarryTheirCodes :=
  ⟨rfl, rfl, rfl, rfl, rfl, rfl, rfl⟩

/-- Settles O54: each word is the encoding of the instruction beside it, so O52 decodes it. -/
theorem writtenOutWordsDecode : Obligations.WrittenOutWordsDecode :=
  ⟨decodeInvertsEncode .setCursor rfl, decodeInvertsEncode (.putString 5) rfl,
    decodeInvertsEncode (.clearDisplayWrongSize 5) rfl, decodeInvertsEncode (.unknown 0xAA 0xBB) rfl,
    decodeInvertsEncode (.dataWrite true false) rfl, decodeInvertsEncode (.idle 0b011010) rfl,
    decodeInvertsEncode (.put true) rfl⟩

end Sys2Proof.Machine

namespace Sys2Proof.Machine

/-! ### The indices by the count (10_state R21) -/

/-- The indices are the count apart, modulo `N` (10_state R21). -/
theorem CountIs.index_distance {s : State} {c : Nat} (h : CountIs s c) :
    (s.wrIdx + s.params.n - s.rdIdx) % s.params.n = c % s.params.n := by
  have hr := h.rdIdx_lt
  refine Nat.ModEq.add_right_cancel' s.rdIdx ?_
  rw [Nat.sub_add_cancel (by omega), Nat.add_comm c, Nat.ModEq, Nat.add_mod_right, h.wrIdx_eq, Nat.mod_mod]

theorem CountIs.rdIdx_eq_wrIdx_iff {s : State} {c : Nat} (h : CountIs s c) :
    s.rdIdx = s.wrIdx ↔ s.fill = .empty ∨ s.fill = .full := by
  rw [← not_iff_not, ← Ne, h.rdIdx_ne_wrIdx_iff, ← h.fill_partial_iff]
  cases s.fill <;> simp

/-! ### `put`, `get` and `state` by their rules (40_fifo R130 to R133) -/

/-- Settles O1: the RAM keeps every slot but the one written. -/
theorem putFollowsItsRule : Obligations.PutFollowsItsRule := fun s =>
  ⟨fun hf hw => ⟨_, ringPut_accepts _ s hf hw, Memory.read_write_same _ _ _,
      fun _ ha => Memory.read_write_other _ _ _ _ ha, rfl, rfl, rfl, rfl⟩,
    fun hf => ringPut_full _ s hf⟩

/-- Settles O2: both clauses are the cases of `get`; what an Empty ring answers as data is left free. -/
theorem getFollowsItsRule : Obligations.GetFollowsItsRule := fun s =>
  ⟨fun hf hr => ringGet_accepts s hf hr, fun hf => ⟨_, ringGet_empty s hf, rfl, rfl⟩⟩

/-- Settles O3: the state is its own successor, and `fill_o` is the code of `fill`. -/
theorem stateIsAPureObserver : Obligations.StateIsAPureObserver := by
  intro s
  refine ⟨s, rfl, rfl, rfl, ?_⟩
  unfold fillO
  cases s.fill <;> rfl

/-! ### The same-step pair, row by row (40_fifo R133) -/

/-- An index advances onto itself in a ring of one slot only. -/
theorem nextIdx_eq_self_iff {p : Config.Params} {i : Nat} (hi : i < p.n) : nextIdx p i = i ↔ p.n = 1 := by
  rcases Nat.lt_or_eq_of_le (Nat.one_le_of_lt hi) with hlt | heq
  · simpa [nextIdx, hlt.ne'] using slot_eq_self_iff hi hlt
  · have hi0 : i = 0 := by omega
    simp [nextIdx, ← heq, hi0]

/-- The pair from Empty: the refused `get` moves nothing, so the `put` is the one of before the step, and the first byte
fills a ring of one slot (40_fifo R133). -/
theorem ringPutGet_of_empty {s : State} (b : Byte) (h : FifoInv s) (hf : s.fill = .empty) :
    ringPutGet b s = .next { s with
      ring := Memory.write s.ring s.wrIdx b
      wrIdx := nextIdx s.params s.wrIdx
      fill := if s.params.n = 1 then .full else .partial_
      putErr := false
      getErr := true
      getData := Config.emptyGetData s.freeCount
      freeCount := s.freeCount + 1 } := by
  have hw : s.wrIdx < s.params.n := h.countIs.wrIdx_lt
  have hmeet : s.rdIdx = s.wrIdx := h.countIs.rdIdx_eq_wrIdx_iff.2 (.inl hf)
  rw [ringPutGet_eq_get_put b h (by simp [hf]), ringGet_empty s hf, andThen_next, ringPut_accepts]
  · simp [fillAfterPut, hmeet, nextIdx_eq_self_iff hw]
  · simp [hf]
  · exact hw

/-- The pair from Full: the refused `put` moves nothing, so the `get` is the one of before the step, and the only byte
of a ring of one slot leaves it Empty (40_fifo R133). -/
theorem ringPutGet_of_full {s : State} (b : Byte) (h : FifoInv s) (hf : s.fill = .full) :
    ringPutGet b s = .next { s with
      rdIdx := nextIdx s.params s.rdIdx
      fill := if s.params.n = 1 then .empty else .partial_
      putErr := true
      getErr := false
      getData := Memory.read s.ring s.rdIdx } := by
  have hr : s.rdIdx < s.params.n := h.countIs.rdIdx_lt
  have hmeet : s.wrIdx = s.rdIdx := (h.countIs.rdIdx_eq_wrIdx_iff.2 (.inr hf)).symm
  rw [ringPutGet_eq_put_get b h (by simp [hf]), ringPut_full b s hf, andThen_next, ringGet_accepts]
  · simp [fillAfterGet, hmeet, nextIdx_eq_self_iff hr]
  · simp [hf]
  · exact hr

/-- The pair from Partial: both calls are accepted, each at its own index (40_fifo R133). -/
theorem ringPutGet_of_partial {s : State} (b : Byte) (h : FifoInv s) (hf : s.fill = .partial_) :
    ringPutGet b s = .next { s with
      ring := Memory.write s.ring s.wrIdx b
      wrIdx := nextIdx s.params s.wrIdx
      rdIdx := nextIdx s.params s.rdIdx
      fill := .partial_
      putErr := false
      getErr := false
      getData := Memory.read s.ring s.rdIdx } := by
  simp [ringPutGet, hf, h.countIs.rdIdx_lt, h.countIs.wrIdx_lt]

/-- Settles O4, row by row: the level before the step says which of the three rows applies. -/
theorem sameStepPutAndGet : Obligations.SameStepPutAndGet := by
  intro s h
  rw [exec_putGet]
  cases hf : s.fill with
  | empty => exact ⟨_, ringPutGet_of_empty _ h hf, by simp [nextIdx]⟩
  | partial_ => exact ⟨_, ringPutGet_of_partial _ h hf, by simp [nextIdx]⟩
  | full => exact ⟨_, ringPutGet_of_full _ h hf, by simp [nextIdx]⟩

/-! ### The count of accepted calls (40_fifo R134) -/

/-- `N` is the same at the end of a run of strobes as at its start. -/
theorem fifoRun_keeps_params (ops : List (PortWord × Byte)) {s t : State} {puts gets : List Byte}
    (h : fifoRun ops s = some (puts, gets, t)) : t.params = s.params := by
  induction ops generalizing s puts gets with
  | nil => cases h; rfl
  | cons op ops ih =>
    obtain ⟨p, b⟩ := op
    cases hstep : exec (decodePort p) (presentByte b s) with
    | next u =>
      rw [fifoRun_cons ops hstep, Option.map_eq_some_iff] at h
      obtain ⟨r, hrun, heq⟩ := h
      cases heq
      simpa using (ih hrun).trans (exec_keeps_params hstep)
    | fault e | refused e =>
      rw [presentByte] at hstep
      simp [fifoRun, hstep] at h

/-- Settles O6: by the queue law the unread bytes are what was put and not got, so the count of accepted calls is the
count the registers show. -/
theorem fillAndIndicesFollowTheCount : Obligations.FillAndIndicesFollowTheCount := by
  intro s ops h hempty
  obtain ⟨puts, gets, t, hrun, ht, hlaw⟩ := fifoRun_queue ops h
  obtain rfl : puts = gets ++ unread t := by simpa [h.fill_empty_iff.1 hempty] using hlaw
  have hcount : (gets ++ unread t).length - gets.length = unreadCount t := by simp [length_unread]
  have hs := ht.countIs
  refine ⟨_, gets, t, hrun, by simp, ?_⟩
  rw [← fifoRun_keeps_params ops hrun]
  simp only [hcount, List.drop_left]
  exact ⟨hs.le_capacity, hs.fill_empty_iff, hs.fill_full_iff, hs.fill_partial_iff, hs.index_distance,
    hs.rdIdx_eq_wrIdx_iff, hs.unread_eq⟩

end Sys2Proof.Machine

namespace Sys2Proof.Machine

/-! ### The FIFO's invariant through every operation (40_fifo R134) -/

theorem ringPut_keeps_fifoInv {b : Byte} {s t : State} (hs : FifoInv s) (h : ringPut b s = .next t) : FifoInv t := by
  obtain ⟨u, hput, hu, _⟩ := ringPut_queue b hs
  cases hput.symm.trans h
  exact hu

theorem ringGet_keeps_fifoInv {s t : State} (hs : FifoInv s) (h : ringGet s = .next t) : FifoInv t := by
  obtain ⟨u, hget, hu, _⟩ := ringGet_queue hs
  cases hget.symm.trans h
  exact hu

theorem ringPutGet_keeps_fifoInv {b : Byte} {s t : State} (hs : FifoInv s) (h : ringPutGet b s = .next t) :
    FifoInv t := by
  obtain ⟨u, hpair, hu, _⟩ := ringPutGet_queue b hs
  cases hpair.symm.trans h
  exact hu

/-! #### What the other operations leave of the FIFO -/

/-- The registers the FIFO's invariant reads. -/
def fifoSide (s : State) : Config.Params × Memory × Nat × Nat × Fill :=
  (s.params, s.ring, s.rdIdx, s.wrIdx, s.fill)

theorem FifoInv.of_fifoSide {s t : State} (hs : FifoInv s) (h : fifoSide t = fifoSide s) : FifoInv t := by
  simp only [fifoSide, Prod.mk.injEq] at h
  obtain ⟨hparams, hring, hrd, hwr, hfill⟩ := h
  simpa only [FifoInv, unreadCount, hparams, hring, hrd, hwr, hfill] using hs

@[simp] theorem fifoSide_emit (e : PortEvent) (s : State) : fifoSide (emit e s) = fifoSide s := rfl

@[simp] theorem fifoSide_goto (d : DState) (s : State) : fifoSide (goto d s) = fifoSide s := rfl

@[simp] theorem fifoSide_finishCycle (st : DecStatus) (s : State) :
    fifoSide (finishCycle st s) = fifoSide s := rfl

@[simp] theorem fifoSide_closeCall (s : State) : fifoSide (closeCall s) = fifoSide s := rfl

@[simp] theorem fifoSide_closeReport (s : State) : fifoSide (closeReport s) = fifoSide s := rfl

@[simp] theorem fifoSide_offerCall (op : DispOp) (a0 a1 a2 : Byte) (s : State) :
    fifoSide (offerCall op a0 a1 a2 s) = fifoSide s := by simp [fifoSide, offerCall]

@[simp] theorem fifoSide_offerReport (code : ErrorCode) (s : State) :
    fifoSide (offerReport code s) = fifoSide s := by simp [fifoSide, offerReport]

@[simp] theorem fifoSide_endCycle (s : State) : fifoSide (endCycle s) = fifoSide s := by
  simp [fifoSide, endCycle]

@[simp] theorem fifoSide_classify (c : EventClass) (s : State) : fifoSide (classify c s) = fifoSide s := rfl

@[simp] theorem fifoSide_endEvent (s : State) : fifoSide (endEvent s) = fifoSide s := rfl

@[simp] theorem fifoSide_releaseAndEnd (s : State) : fifoSide (releaseAndEnd s) = fifoSide s := by
  simp [releaseAndEnd]

@[simp] theorem fifoSide_startTransaction (s : State) : fifoSide (startTransaction s) = fifoSide s := by
  simp [fifoSide, startTransaction_eq]

@[simp] theorem fifoSide_countByte (b : Byte) (s : State) : fifoSide (countByte b s) = fifoSide s := rfl

@[simp] theorem fifoSide_awaitCollision (key : Key) (s : State) : fifoSide (awaitCollision key s) = fifoSide s := by
  rcases awaitCollision_cases key s with ⟨_, heq⟩ | ⟨_, heq⟩
  · rw [heq]; rfl
  · simp [heq]

@[simp] theorem fifoSide_dispatchFixed (need : BitVec 2) (s : State) :
    fifoSide (dispatchFixed need s) = fifoSide s := rfl

@[simp] theorem fifoSide_dispatchString (size : Byte) (s : State) :
    fifoSide (dispatchString size s) = fifoSide s := by
  unfold dispatchString
  split <;> simp [fifoSide]

@[simp] theorem fifoSide_dispatchMalformed (s : State) : fifoSide (dispatchMalformed s) = fifoSide s := rfl

@[simp] theorem fifoSide_dispatchUnknown (s : State) : fifoSide (dispatchUnknown s) = fifoSide s := rfl

@[simp] theorem fifoSide_waitDispOnce (s : State) : fifoSide (waitDispOnce s) = fifoSide s := by
  rcases waitDispOnce_cases s with ⟨_, heq⟩ | ⟨_, heq⟩ <;> simp [heq]

@[simp] theorem fifoSide_waitDispString (s : State) : fifoSide (waitDispString s) = fifoSide s := by
  rcases waitDispString_cases s with ⟨_, heq⟩ | ⟨_, _, heq⟩ | ⟨_, _, heq⟩ <;> simp [heq, fifoSide]

@[simp] theorem fifoSide_waitDiagStep (s : State) : fifoSide (waitDiagStep s) = fifoSide s := by
  rcases waitDiagStep_cases s with ⟨_, heq⟩ | ⟨_, heq⟩ <;> simp [heq]

@[simp] theorem fifoSide_idleStep (s : State) : fifoSide (idleStep s) = fifoSide s := by
  unfold idleStep
  split <;> simp

@[simp] theorem fifoSide_nextInputs (s : State) : fifoSide (nextInputs s) = fifoSide s := by
  simp [fifoSide]

@[simp] theorem fifoSide_endStep (s : State) : fifoSide (endStep s) = fifoSide s := by
  simp [fifoSide]

theorem setArg_keeps_fifoSide {k : BitVec 2} {b : Byte} {s t : State} (h : setArg k b s = .next t) :
    fifoSide t = fifoSide s := by
  rcases setArg_cases h with ⟨_, rfl⟩ | ⟨_, rfl⟩ | ⟨_, rfl⟩ <;> rfl

/-! #### Every instruction, every turn -/

theorem receiveByte_keeps_fifoInv {s t : State} (hs : FifoInv s) (h : receiveByte s = .next t) : FifoInv t := by
  obtain ⟨u, hput, rfl⟩ := receiveByte_cases h
  have hu : FifoInv u := ringPut_keeps_fifoInv (hs.of_fifoSide (by simp)) hput
  cases herr : u.putErr <;> exact hu.of_fifoSide (by simp)

theorem execPut_keeps_fifoInv {getEn : Bool} {s t : State} (hs : FifoInv s) (h : execPut getEn s = .next t) :
    FifoInv t := by
  cases getEn with
  | false => exact ringPut_keeps_fifoInv hs h
  | true => exact ringPutGet_keeps_fifoInv hs h

theorem execDataRead_keeps_fifoInv {consumed bf nak : Bool} {s t : State} (hs : FifoInv s)
    (h : execDataRead consumed bf nak s = .next t) : FifoInv t := by
  unfold execDataRead at h
  split at h <;> cases h <;> exact hs.of_fifoSide (by simp)

theorem getPayloadStep_keeps_fifoInv {s t : State} (hs : FifoInv s) (h : getPayloadStep s = .next t) : FifoInv t := by
  rcases getPayloadStep_cases h with ⟨_, u, hget, rfl⟩ | ⟨_, u, v, hget, harg, rfl⟩
  · exact (ringGet_keeps_fifoInv hs hget).of_fifoSide (by simp)
  · have hv : FifoInv v := (ringGet_keeps_fifoInv hs hget).of_fifoSide (setArg_keeps_fifoSide harg)
    exact hv.of_fifoSide rfl

/-- A command keeps the FIFO's invariant when its DISPATCH, its CALL and its WAIT_DISP leave the FIFO alone; the one
`get` is GET_PAYLOAD's (43_decoder R202). -/
theorem commandStep_keeps_fifoInv {b w : State → State} {c : State → Result} {s t : State} (hs : FifoInv s)
    (hb : fifoSide (b s) = fifoSide s) (hc : c s = .next t → fifoSide t = fifoSide s)
    (hw : fifoSide (w s) = fifoSide s) (h : commandStep b c w s = .next t) : FifoInv t := by
  rcases commandStep_cases h with ⟨_, hpay⟩ | ⟨_, hcall⟩ | ⟨_, rfl⟩ | ⟨_, _, _, rfl⟩
  · exact getPayloadStep_keeps_fifoInv hs hpay
  · exact hs.of_fifoSide (hc hcall)
  · exact hs.of_fifoSide hw
  · exact hs.of_fifoSide hb

theorem callWithArgs_keeps_fifoSide {op : DispOp} {s t : State} (h : callWithArgs op s = .next t) :
    fifoSide t = fifoSide s := by
  cases h
  simp

theorem callSetControl_keeps_fifoSide {s t : State} (h : callSetControl s = .next t) : fifoSide t = fifoSide s := by
  cases h
  simp

theorem exec_keeps_fifoInv {i : Instr} {s t : State} (hs : FifoInv s) (h : exec i s = .next t) : FifoInv t := by
  cases i with
  | clearDisplay | returnHome | setCursor | putChar | putString =>
    exact commandStep_keeps_fifoInv hs (by simp) callWithArgs_keeps_fifoSide (by simp) h
  | controlDisplay => exact commandStep_keeps_fifoInv hs (by simp) callSetControl_keeps_fifoSide (by simp) h
  | putStringShort | clearDisplayWrongSize | returnHomeWrongSize | setCursorWrongSize | putCharWrongSize
  | controlDisplayWrongSize | unknown =>
    exact commandStep_keeps_fifoInv hs (by simp) (fun hcall => absurd hcall noCall_ne_next) (by simp) h
  | addressWrite | addressRead | idle => cases h; exact hs.of_fifoSide (by simp)
  | dataWrite bf nak =>
    obtain ⟨u, hbyte, hend⟩ := andThen_eq_next.1 h
    cases hend
    exact (receiveByte_keeps_fifoInv (hs.of_fifoSide (by simp)) hbyte).of_fifoSide (by simp)
  | dataRead consumed bf nak => exact execDataRead_keeps_fifoInv hs h
  | put getEn => exact execPut_keeps_fifoInv hs h
  | get => exact ringGet_keeps_fifoInv hs h
  | state => cases h; exact hs

theorem controlStep_keeps_fifoInv {c : Control} {s t : State} (hs : FifoInv s) (h : controlStep c s = .next t) :
    FifoInv t := by
  cases c with
  | idle | waitDiag | done => cases h; exact hs.of_fifoSide (by simp)
  | report => cases h; exact hs.of_fifoSide (fifoSide_offerReport _ s)
  | getId =>
    obtain ⟨u, hget, ⟨_, rfl⟩ | ⟨_, rfl⟩⟩ := getIdStep_cases h <;>
      exact (ringGet_keeps_fifoInv hs hget).of_fifoSide (by simp [fifoSide])
  | getSize =>
    obtain ⟨u, hget, ⟨_, rfl⟩ | ⟨_, rfl⟩⟩ := getSizeStep_cases h <;>
      exact (ringGet_keeps_fifoInv hs hget).of_fifoSide (by simp [fifoSide])

theorem takeTurn_keeps_fifoInv {r : Turn} {s t : State} (hs : FifoInv s) (h : takeTurn r s = .next t) : FifoInv t := by
  cases r with
  | run i => exact exec_keeps_fifoInv hs h
  | control c => exact controlStep_keeps_fifoInv hs h

/-! ### A FIFO strobe touches the FIFO alone (40_fifo R130 to R133) -/

theorem exec_fifoPort_frame {i : Instr} {s t : State} (hfmt : i.format = .fifoPort) (h : exec i s = .next t) :
    t = { s with
      ring := t.ring, rdIdx := t.rdIdx, wrIdx := t.wrIdx, fill := t.fill, putErr := t.putErr,
      getErr := t.getErr, getData := t.getData, freeCount := t.freeCount } := by
  cases i with
  | put getEn =>
    cases getEn with
    | false => rw [ringPut_frame h]
    | true =>
      rcases ringPutGet_cases h with ⟨_, u, hget, hput⟩ | ⟨_, u, hput, hget⟩ | ⟨_, _, _, rfl⟩
      · rw [ringPut_frame hput, ringGet_frame hget]
      · rw [ringGet_frame hget, ringPut_frame hput]
      · rfl
  | get => rw [ringGet_frame h]
  | state => cases h; rfl
  | _ => cases hfmt

/-! ### The receive path's invariant (41_classifier R157, 60_exceptions R257) -/

/-- A held key is the event's key, so the invariant does not depend on the inputs. -/
theorem receiveInv_iff {s : State} : ReceiveInv s ↔ (s.addrConsumed = true → s.bts ≠ .awaitingAddress) ∧
    ∀ key, s.rxHold = some key → s.evtPend = true ∧ s.rxMask = false ∧ isDataRead (decodeKey key) = true := by
  refine and_congr_right fun _ => ?_
  cases hk : s.rxHold <;> simp [eventKey, hk]

theorem receiveInv_of_no_wait {s : State} (hbts : s.addrConsumed = true → s.bts ≠ .awaitingAddress)
    (hnone : s.rxHold = none) : ReceiveInv s :=
  ⟨hbts, absurd hnone⟩

theorem receiveInv_of_bts {s : State} (hbts : s.bts ≠ .awaitingAddress) (hnone : s.rxHold = none) : ReceiveInv s :=
  receiveInv_of_no_wait (fun _ => hbts) hnone

/-- A step that waits for the collision flag holds a DataRead key of an event still pending (41_classifier R154). -/
theorem receiveInv_awaitCollision {key : Key} {s : State} (hs : ReceiveInv s) (hen : receiveEnabled s = true)
    (hkey : isDataRead (decodeKey key) = true) : ReceiveInv (awaitCollision key s) := by
  obtain ⟨hpend, hmask⟩ : s.evtPend = true ∧ s.rxMask = false := by simpa [receiveEnabled] using hen
  obtain ⟨hbts, _⟩ := hs
  rcases awaitCollision_cases key s with ⟨_, heq⟩ | ⟨_, heq⟩ <;> rw [heq]
  · exact ⟨hbts, fun _ => ⟨hpend, hmask, hkey⟩⟩
  · exact receiveInv_of_bts (by simp [releaseAndEnd, btsAfter]) rfl

theorem isDataRead_keyBits (consumed bf nak : Bool) :
    isDataRead (decodeKey (keyBits consumed true true true bf nak)) = true := by
  rw [decodeKey_keyBits, idleKey_keyBits]
  rfl

theorem receiveByte_keeps_bts {s t : State} (h : receiveByte s = .next t) : t.bts = s.bts := by
  obtain ⟨u, hput, rfl⟩ := receiveByte_cases h
  rw [ringPut_frame hput]
  cases u.putErr <;> rfl

/-- A receive step ends the event it handles, or is a DataRead that waits. -/
theorem exec_snapshotKey_keeps_receiveInv {i : Instr} {s t : State} (hfmt : i.format = .snapshotKey)
    (hs : ReceiveInv s) (hen : receiveEnabled s = true) (h : exec i s = .next t) : ReceiveInv t := by
  cases i with
  | addressWrite | addressRead =>
    cases h
    refine receiveInv_of_bts ?_ rfl
    simp [releaseAndEnd, startTransaction_eq, btsAfter]
  | dataWrite bf nak =>
    obtain ⟨u, hbyte, hend⟩ := andThen_eq_next.1 h
    cases hend
    have hbts : u.bts = .inDataPhase := receiveByte_keeps_bts hbyte
    exact receiveInv_of_bts (by simp [releaseAndEnd, hbts]) rfl
  | dataRead consumed bf nak =>
    rw [exec, execDataRead] at h
    split at h <;> cases h
    next key hk =>
      obtain ⟨_, hwait⟩ := receiveInv_iff.1 hs
      obtain ⟨_, _, hkey⟩ := hwait key hk
      exact receiveInv_awaitCollision hs hen hkey
    next => exact receiveInv_awaitCollision hs hen (isDataRead_keyBits consumed bf nak)
  | idle key =>
    cases h
    obtain ⟨hbts, _⟩ := hs
    exact receiveInv_of_no_wait hbts rfl
  | _ => cases hfmt

@[simp] theorem receiveSide_rxHold (s : State) : (receiveSide s).rxHold = s.rxHold := rfl

/-- A decoder turn finds no step waiting, since a waiting step would have the turn, and starts none. -/
theorem decoderTurn_keeps_receiveInv {s u : State} (hs : ReceiveInv s) (hen : receiveEnabled s = false)
    (h : takeTurn (decoderTurn s) (beginStep s) = .next u) : ReceiveInv u := by
  obtain ⟨hbts, hwait⟩ := hs
  have hnone : s.rxHold = none := by
    by_contra hhold
    obtain ⟨hpend, hmask, _⟩ := hwait hhold
    simp [receiveEnabled, hpend, hmask] at hen
  obtain ⟨count, hside, _⟩ := decoderTurn_receiveSide h
  have hcons : u.addrConsumed = s.addrConsumed := by simpa using congrArg State.addrConsumed hside
  have hphase : u.bts = s.bts := by simpa using congrArg State.bts hside
  have hhold : u.rxHold = s.rxHold := by simpa using congrArg State.rxHold hside
  exact receiveInv_of_no_wait (by rwa [hcons, hphase]) (hhold.trans hnone)

end Sys2Proof.Machine

namespace Sys2Proof.Machine

/-! ### The registers of the decoder's invariant: what no receive step and no strobe writes (43_decoder R206) -/

/-- A state with every register but those the decoder's invariant reads put at its reset value. -/
def decoderSide (s : State) : State :=
  { State.reset with
    dstate := s.dstate
    frameId := s.frameId
    frameSize := s.frameSize
    payNeed := s.payNeed
    payCnt := s.payCnt
    remaining := s.remaining
    rxMask := s.rxMask
    dispValid := s.dispValid
    dispOp := s.dispOp
    diagValid := s.diagValid
    diagCode := s.diagCode }

@[simp] theorem decoderSide_dstate (s : State) : (decoderSide s).dstate = s.dstate := rfl

theorem decoderInv_decoderSide (s : State) : DecoderInv (decoderSide s) ↔ DecoderInv s := Iff.rfl

theorem DecoderInv.of_decoderSide {s t : State} (hs : DecoderInv s) (h : decoderSide t = decoderSide s) :
    DecoderInv t := by
  rwa [← decoderInv_decoderSide, h, decoderInv_decoderSide]

@[simp] theorem decoderSide_emit (e : PortEvent) (s : State) : decoderSide (emit e s) = decoderSide s := rfl

@[simp] theorem decoderSide_classify (c : EventClass) (s : State) : decoderSide (classify c s) = decoderSide s := rfl

@[simp] theorem decoderSide_endEvent (s : State) : decoderSide (endEvent s) = decoderSide s := rfl

@[simp] theorem decoderSide_releaseAndEnd (s : State) : decoderSide (releaseAndEnd s) = decoderSide s := by
  simp [releaseAndEnd]

@[simp] theorem decoderSide_startTransaction (s : State) : decoderSide (startTransaction s) = decoderSide s := by
  simp [decoderSide, startTransaction_eq]

@[simp] theorem decoderSide_countByte (b : Byte) (s : State) : decoderSide (countByte b s) = decoderSide s := rfl

@[simp] theorem decoderSide_awaitCollision (key : Key) (s : State) :
    decoderSide (awaitCollision key s) = decoderSide s := by
  rcases awaitCollision_cases key s with ⟨_, heq⟩ | ⟨_, heq⟩
  · rw [heq]; rfl
  · simp [heq]

@[simp] theorem decoderSide_nextInputs (s : State) : decoderSide (nextInputs s) = decoderSide s := by
  simp [decoderSide]

@[simp] theorem decoderSide_endStep (s : State) : decoderSide (endStep s) = decoderSide s := by
  simp [decoderSide]

theorem ringPut_keeps_decoderSide {b : Byte} {s t : State} (h : ringPut b s = .next t) :
    decoderSide t = decoderSide s := by
  rw [ringPut_frame h]; rfl

theorem ringGet_keeps_decoderSide {s t : State} (h : ringGet s = .next t) : decoderSide t = decoderSide s := by
  rw [ringGet_frame h]; rfl

theorem setArg_keeps_decoderSide {k : BitVec 2} {b : Byte} {s t : State} (h : setArg k b s = .next t) :
    decoderSide t = decoderSide s := by
  rcases setArg_cases h with ⟨_, rfl⟩ | ⟨_, rfl⟩ | ⟨_, rfl⟩ <;> rfl

theorem receiveByte_keeps_decoderSide {s t : State} (h : receiveByte s = .next t) :
    decoderSide t = decoderSide s := by
  obtain ⟨u, hput, rfl⟩ := receiveByte_cases h
  have hu : decoderSide u = decoderSide s := by simpa using ringPut_keeps_decoderSide hput
  cases herr : u.putErr <;> simp [hu]

/-- 43_decoder R206 for the instructions of the other two formats: the decoder is not moved. -/
theorem exec_keeps_decoderSide {i : Instr} {s t : State} (hfmt : i.format ≠ .frameHdr) (h : exec i s = .next t) :
    decoderSide t = decoderSide s := by
  cases i with
  | addressWrite | addressRead | idle => cases h; simp
  | dataWrite bf nak =>
    obtain ⟨u, hbyte, hend⟩ := andThen_eq_next.1 h
    cases hend
    simpa using receiveByte_keeps_decoderSide hbyte
  | dataRead consumed bf nak =>
    rw [exec, execDataRead] at h
    split at h <;> cases h <;> simp
  | put | get | state =>
    rw [exec_fifoPort_frame rfl h]
    rfl
  | _ => exact absurd rfl hfmt

/-! ### The decoder's invariant, state by state (43_decoder R193, R202 to R204) -/

/-- No mask window is open and nothing is offered. -/
@[reducible] def NothingOffered (s : State) : Prop :=
  s.rxMask = false ∧ s.dispValid = false ∧ s.diagValid = false ∧ s.dispOp = .none

/-- The command in progress makes calls of `pay_need` bytes, and a PutString has characters left. -/
@[reducible] def CallsAhead (s : State) : Prop :=
  payloadNeed (decodeHeader (headerOf s)) = some s.payNeed ∧ (s.frameId = 5 → s.remaining ≠ 0)

theorem DecoderInv.nothingOffered {s : State} (h : DecoderInv s) (hdisp : s.dstate ≠ .waitDisp)
    (hdiag : s.dstate ≠ .waitDiag) : NothingOffered s := by
  obtain ⟨hmask, hcall, hreport, hop, _⟩ := h
  simp_all [NothingOffered]

theorem DecoderInv.callsAhead {s : State} (h : DecoderInv s) (hcmd : inCommand s = true) : CallsAhead s := by
  obtain ⟨_, _, _, _, _, hneed, _, hleft⟩ := h
  exact ⟨hneed hcmd, hleft hcmd⟩

/-- Outside a command and WAIT_DIAG the invariant asks for nothing else. -/
theorem decoderInv_of_nothingOffered {s : State} (h : NothingOffered s) (hcmd : inCommand s = false)
    (hdiag : s.dstate ≠ .waitDiag) : DecoderInv s := by
  obtain ⟨hmask, hcall, hreport, hop⟩ := h
  cases hd : s.dstate <;> simp_all [DecoderInv, inCommand]

theorem decoderInv_of_getPayload {s : State} (hd : s.dstate = .getPayload) (h : NothingOffered s) (hcmd : CallsAhead s)
    (hcnt : s.payCnt.toNat < s.payNeed.toNat) : DecoderInv s := by
  obtain ⟨hmask, hcall, hreport, hop⟩ := h
  obtain ⟨hneed, hleft⟩ := hcmd
  simp_all [DecoderInv]

theorem decoderInv_of_call {s : State} (hd : s.dstate = .call) (h : NothingOffered s) (hcmd : CallsAhead s) :
    DecoderInv s := by
  obtain ⟨hmask, hcall, hreport, hop⟩ := h
  obtain ⟨hneed, hleft⟩ := hcmd
  simp_all [DecoderInv]

/-! #### Each step of the decoder -/

/-- A cycle whose outcome is decided has closed its window. -/
theorem decoderInv_finishCycle (st : DecStatus) {s : State} (h : NothingOffered s) : DecoderInv (finishCycle st s) :=
  decoderInv_of_nothingOffered h rfl (by simp)

theorem decoderInv_goto_report {s : State} (h : NothingOffered s) : DecoderInv (goto .report s) :=
  decoderInv_of_nothingOffered h rfl (by simp)

theorem decoderInv_idleStep {s : State} (h : DecoderInv s) (hd : s.dstate = .idle) : DecoderInv (idleStep s) := by
  unfold idleStep
  split
  · exact h
  · exact decoderInv_of_nothingOffered (h.nothingOffered (by simp [hd]) (by simp [hd])) rfl (by simp)

theorem ringGet_keeps_nothingOffered {s t : State} (h : NothingOffered s) (hget : ringGet s = .next t) :
    NothingOffered t := by
  rw [ringGet_frame hget]
  exact h

theorem getIdStep_keeps_decoderInv {s t : State} (hs : NothingOffered s) (h : getIdStep s = .next t) :
    DecoderInv t := by
  obtain ⟨u, hget, hcase⟩ := getIdStep_cases h
  have hu : NothingOffered u := ringGet_keeps_nothingOffered hs hget
  rcases hcase with ⟨_, rfl⟩ | ⟨_, rfl⟩
  · exact decoderInv_goto_report hu
  · exact decoderInv_of_nothingOffered hu rfl (by simp)

theorem getSizeStep_keeps_decoderInv {s t : State} (hs : NothingOffered s) (h : getSizeStep s = .next t) :
    DecoderInv t := by
  obtain ⟨u, hget, hcase⟩ := getSizeStep_cases h
  have hu : NothingOffered u := ringGet_keeps_nothingOffered hs hget
  rcases hcase with ⟨_, rfl⟩ | ⟨_, rfl⟩
  · exact decoderInv_goto_report hu
  · exact decoderInv_of_nothingOffered hu rfl (by simp)

theorem decoderInv_reportStep {s : State} (hs : NothingOffered s) : DecoderInv (reportStep s) := by
  obtain ⟨_, hcall, _, hop⟩ := hs
  simp [DecoderInv, reportStep, offerReport, inCommand, hcall, hop]

theorem decoderInv_waitDiagStep {s : State} (h : DecoderInv s) (hd : s.dstate = .waitDiag) :
    DecoderInv (waitDiagStep s) := by
  rcases waitDiagStep_cases s with ⟨_, heq⟩ | ⟨_, heq⟩ <;> rw [heq]
  · exact h
  · obtain ⟨_, hcall, _, hop, _⟩ := h
    exact decoderInv_finishCycle _ ⟨rfl, by simpa [hd] using hcall, rfl, by simpa [hd] using hop⟩

/-! #### DISPATCH -/

/-- A PutString header, or one of size 0 or 1, is what identifier 5 decodes to (43_decoder R198). -/
theorem decodeHeader_of_putString_id {s : State} {need : BitVec 2} (hid : s.frameId = 5)
    (hneed : payloadNeed (decodeHeader (headerOf s)) = some need) :
    decodeHeader (headerOf s) = .putString s.frameSize := by
  have hrow : decodeHeader (headerOf s) =
      if s.frameSize.toNat < 2 then .putStringShort s.frameSize else .putString s.frameSize := by
    rw [headerOf, decodeHeader_eq]
    simp [hid]
  rw [hrow] at hneed ⊢
  split at hneed
  · cases hneed
  · rw [if_neg ‹_›]

theorem commandStep_dispatch {b w : State → State} {c : State → Result} {s t : State} (hd : s.dstate = .dispatch)
    (h : commandStep b c w s = .next t) : t = b s := by
  simpa [commandStep, hd, eq_comm] using h

/-- What DISPATCH does, by the kind of header (43_decoder R193). -/
theorem exec_dispatch_cases {i : Instr} {s t : State} (hfmt : i.format = .frameHdr) (hd : s.dstate = .dispatch)
    (h : exec i s = .next t) :
    (∃ need, payloadNeed i = some need ∧ (∀ size, i ≠ .putString size) ∧ t = dispatchFixed need s) ∨
    (∃ size, i = .putString size ∧ t = dispatchString size s) ∨
    t = dispatchMalformed s ∨ t = dispatchUnknown s := by
  cases i with
  | clearDisplay | returnHome | setCursor | putChar | controlDisplay =>
    exact .inl ⟨_, rfl, nofun, commandStep_dispatch hd h⟩
  | putString size => exact .inr (.inl ⟨size, rfl, commandStep_dispatch hd h⟩)
  | putStringShort | clearDisplayWrongSize | returnHomeWrongSize | setCursorWrongSize | putCharWrongSize
  | controlDisplayWrongSize =>
    exact .inr (.inr (.inl (commandStep_dispatch hd h)))
  | unknown => exact .inr (.inr (.inr (commandStep_dispatch hd h)))
  | _ => cases hfmt

theorem decoderInv_dispatchFixed {need : BitVec 2} {s : State} (hs : NothingOffered s)
    (hneed : payloadNeed (decodeHeader (headerOf s)) = some need)
    (hfixed : ∀ size, decodeHeader (headerOf s) ≠ .putString size) : DecoderInv (dispatchFixed need s) := by
  have hcmd : CallsAhead (dispatchFixed need s) :=
    ⟨hneed, fun hid => absurd (decodeHeader_of_putString_id hid hneed) (hfixed _)⟩
  by_cases hzero : need = 0
  · exact decoderInv_of_call (if_pos hzero) hs hcmd
  · refine decoderInv_of_getPayload (if_neg hzero) hs hcmd ?_
    show 0 < need.toNat
    bv_omega

/-- A PutString starts its first character, unless the string is empty (43_decoder R198). -/
theorem decoderInv_dispatchString {size : Byte} {s : State} (hs : NothingOffered s)
    (hi : decodeHeader (headerOf s) = .putString size) : DecoderInv (dispatchString size s) := by
  unfold dispatchString
  split
  · exact decoderInv_finishCycle _ hs
  · have hleft : stringLength size ≠ 0 := by
      unfold stringLength
      bv_omega
    refine decoderInv_of_getPayload rfl hs ⟨?_, fun _ => hleft⟩ (by simp)
    exact congrArg payloadNeed hi

theorem exec_dispatch_keeps_decoderInv {s t : State} (hs : NothingOffered s) (hd : s.dstate = .dispatch)
    (h : exec (decodeHeader (headerOf s)) s = .next t) : DecoderInv t := by
  rcases exec_dispatch_cases (decodeHeader_format _) hd h with
    ⟨need, hneed, hfixed, rfl⟩ | ⟨size, hi, rfl⟩ | rfl | rfl
  · exact decoderInv_dispatchFixed hs hneed hfixed
  · exact decoderInv_dispatchString hs hi
  · exact decoderInv_finishCycle _ hs
  · exact decoderInv_finishCycle _ hs

/-! #### GET_PAYLOAD -/

theorem exec_getPayload {i : Instr} {s : State} (hfmt : i.format = .frameHdr) (hd : s.dstate = .getPayload) :
    exec i s = getPayloadStep s := by
  cases i with
  | addressWrite | dataWrite | addressRead | dataRead | idle | put | get | state => cases hfmt
  | _ => exact commandStep_getPayload hd

/-- A payload byte stored: the call is next, or there are bytes of it missing still (43_decoder R202). -/
theorem decoderInv_of_payload_stored {s : State} (h : DecoderInv s) (hd : s.dstate = .getPayload) :
    DecoderInv { s with
      payCnt := s.payCnt + 1
      dstate := if s.payCnt + 1 = s.payNeed then .call else .getPayload } := by
  have hoff : NothingOffered s := h.nothingOffered (by simp [hd]) (by simp [hd])
  have hcmd : CallsAhead s := h.callsAhead (by simp [inCommand, hd])
  obtain ⟨_, _, _, _, _, _, hcnt, _⟩ := h
  have hlt := hcnt hd
  by_cases hlast : s.payCnt + 1 = s.payNeed
  · exact decoderInv_of_call (if_pos hlast) hoff hcmd
  · refine decoderInv_of_getPayload (if_neg hlast) hoff hcmd ?_
    show (s.payCnt + 1).toNat < s.payNeed.toNat
    bv_omega

theorem getPayloadStep_keeps_decoderInv {s t : State} (hs : DecoderInv s) (hd : s.dstate = .getPayload)
    (h : getPayloadStep s = .next t) : DecoderInv t := by
  rcases getPayloadStep_cases h with ⟨_, u, hget, rfl⟩ | ⟨_, u, v, hget, harg, rfl⟩
  · have hoff : NothingOffered s := hs.nothingOffered (by simp [hd]) (by simp [hd])
    exact decoderInv_goto_report (ringGet_keeps_nothingOffered hoff hget)
  · have hside : decoderSide v = decoderSide s :=
      (setArg_keeps_decoderSide harg).trans (ringGet_keeps_decoderSide hget)
    have hvd : v.dstate = s.dstate := by simpa using congrArg State.dstate hside
    exact decoderInv_of_payload_stored (hs.of_decoderSide hside) (hvd.trans hd)

/-! #### CALL -/

/-- What CALL does in a command that makes calls (43_decoder R203). -/
theorem exec_call {i : Instr} {need : BitVec 2} {s t : State} (hneed : payloadNeed i = some need)
    (hd : s.dstate = .call) (h : exec i s = .next t) : ∃ a2, t = offerCall (callOp i) s.arg0 s.arg1 a2 s := by
  cases i with
  | clearDisplay | returnHome | setCursor | putChar | controlDisplay | putString =>
    have hcall := (commandStep_call hd).symm.trans h
    cases hcall
    exact ⟨_, rfl⟩
  | _ => cases hneed

theorem exec_call_keeps_decoderInv {s t : State} (hs : DecoderInv s) (hd : s.dstate = .call)
    (h : exec (decodeHeader (headerOf s)) s = .next t) : DecoderInv t := by
  obtain ⟨_, _, hreport, _⟩ := hs.nothingOffered (by simp [hd]) (by simp [hd])
  obtain ⟨hneed, hleft⟩ := hs.callsAhead (by simp [inCommand, hd])
  obtain ⟨a2, rfl⟩ := exec_call hneed hd h
  simpa [DecoderInv, offerCall, inCommand, hreport, headerOf] using ⟨hneed, hleft⟩

/-! #### WAIT_DISP -/

theorem commandStep_waitDisp {b w : State → State} {c : State → Result} {s t : State} (hd : s.dstate = .waitDisp)
    (h : commandStep b c w s = .next t) : t = w s := by
  simpa [commandStep, hd, eq_comm] using h

/-- What WAIT_DISP does, by the command (43_decoder R203). -/
theorem exec_waitDisp_cases {i : Instr} {s t : State} (hfmt : i.format = .frameHdr) (hd : s.dstate = .waitDisp)
    (h : exec i s = .next t) : t = waitDispOnce s ∨ ∃ size, i = .putString size ∧ t = waitDispString s := by
  cases i with
  | putString size => exact .inr ⟨size, rfl, commandStep_waitDisp hd h⟩
  | addressWrite | dataWrite | addressRead | dataRead | idle | put | get | state => cases hfmt
  | _ => exact .inl (commandStep_waitDisp hd h)

theorem nothingOffered_closeCall {s : State} (hs : DecoderInv s) (hd : s.dstate = .waitDisp) :
    NothingOffered (closeCall s) := by
  obtain ⟨_, _, hreport, _⟩ := hs
  exact ⟨rfl, rfl, by simpa [hd] using hreport, rfl⟩

theorem decoderInv_waitDispOnce {s : State} (hs : DecoderInv s) (hd : s.dstate = .waitDisp) :
    DecoderInv (waitDispOnce s) := by
  rcases waitDispOnce_cases s with ⟨_, heq⟩ | ⟨_, heq⟩ <;> rw [heq]
  · exact hs
  · exact decoderInv_finishCycle _ (nothingOffered_closeCall hs hd)

/-- The next character of a string is one payload byte again (43_decoder R198). -/
theorem decoderInv_waitDispString {size : Byte} {s : State} (hs : DecoderInv s) (hd : s.dstate = .waitDisp)
    (hi : decodeHeader (headerOf s) = .putString size) : DecoderInv (waitDispString s) := by
  have hoff := nothingOffered_closeCall hs hd
  obtain ⟨hneed, _⟩ := hs.callsAhead (by simp [inCommand, hd])
  have hone : s.payNeed = 1 := by simpa [hi, payloadNeed, eq_comm] using hneed
  rcases waitDispString_cases s with ⟨_, heq⟩ | ⟨_, _, heq⟩ | ⟨_, hleft, heq⟩ <;> rw [heq]
  · exact hs
  · exact decoderInv_finishCycle _ hoff
  · exact decoderInv_of_getPayload rfl hoff ⟨hneed, fun _ => hleft⟩ (by simp [hone])

theorem exec_waitDisp_keeps_decoderInv {s t : State} (hs : DecoderInv s) (hd : s.dstate = .waitDisp)
    (h : exec (decodeHeader (headerOf s)) s = .next t) : DecoderInv t := by
  rcases exec_waitDisp_cases (decodeHeader_format _) hd h with rfl | ⟨size, hi, rfl⟩
  · exact decoderInv_waitDispOnce hs hd
  · exact decoderInv_waitDispString hs hd hi

/-! #### Every turn -/

theorem decoderTurn_keeps_decoderInv {s t : State} (hs : DecoderInv s) (h : takeTurn (decoderTurn s) s = .next t) :
    DecoderInv t := by
  have hoff := hs.nothingOffered
  unfold decoderTurn at h
  cases hd : s.dstate <;> rw [hd] at h hoff
  case idle => cases h; exact decoderInv_idleStep hs hd
  case getId => exact getIdStep_keeps_decoderInv (hoff nofun nofun) h
  case getSize => exact getSizeStep_keeps_decoderInv (hoff nofun nofun) h
  case dispatch => exact exec_dispatch_keeps_decoderInv (hoff nofun nofun) hd h
  case getPayload =>
    exact getPayloadStep_keeps_decoderInv hs hd ((exec_getPayload (decodeHeader_format _) hd).symm.trans h)
  case call => exact exec_call_keeps_decoderInv hs hd h
  case waitDisp => exact exec_waitDisp_keeps_decoderInv hs hd h
  case report => cases h; exact decoderInv_reportStep (hoff nofun nofun)
  case waitDiag => cases h; exact decoderInv_waitDiagStep hs hd
  case done => cases h; exact decoderInv_of_nothingOffered (hoff nofun nofun) rfl (by simp [endCycle])

/-! ### The invariant of the block -/

/-- A strobe and a receive step leave the decoder alone, a strobe the receive path too, and a decoder turn is taken
only when no receive step is enabled (43_decoder R206). -/
theorem turn_keeps_blockInv {s u : State} (hs : BlockInv s) (h : takeTurn (turn s) (beginStep s) = .next u) :
    BlockInv u := by
  obtain ⟨hfifo, hrecv, hdec⟩ := hs
  have hdec' : DecoderInv (beginStep s) := hdec
  refine ⟨takeTurn_keeps_fifoInv (s := beginStep s) hfifo h, ?_⟩
  rcases turn_cases s with ⟨p, _, hturn⟩ | ⟨_, hen, hturn⟩ | ⟨_, hen, hturn⟩ <;> rw [hturn] at h
  · obtain ⟨_, hfmt, _⟩ := decodePort_sound p
    refine ⟨?_, hdec'.of_decoderSide (exec_keeps_decoderSide (by simp [hfmt]) h)⟩
    rw [exec_fifoPort_frame hfmt h]
    exact hrecv
  · obtain ⟨_, hfmt, _⟩ := decodeKey_sound (eventKey s)
    exact ⟨exec_snapshotKey_keeps_receiveInv (s := beginStep s) hfmt hrecv hen h,
      hdec'.of_decoderSide (exec_keeps_decoderSide (by simp [hfmt]) h)⟩
  · exact ⟨decoderTurn_keeps_receiveInv hrecv hen h, decoderTurn_keeps_decoderInv hdec' h⟩

/-- Moving the inputs on touches no register. -/
theorem blockInv_nextInputs {s : State} (hs : BlockInv s) : BlockInv (nextInputs s) := by
  obtain ⟨hfifo, hrecv, hdec⟩ := hs
  refine ⟨hfifo.of_fifoSide (by simp), receiveInv_iff.2 ?_, hdec.of_decoderSide (by simp)⟩
  simpa using receiveInv_iff.1 hrecv

/-- An event recorded at the end of a step only raises `evt_pend` (60_exceptions R249). -/
theorem blockInv_endStep {s : State} (hs : BlockInv s) : BlockInv (endStep s) := by
  obtain ⟨hfifo, hrecv, hdec⟩ := hs
  obtain ⟨hbts, hwait⟩ := receiveInv_iff.1 hrecv
  refine ⟨hfifo.of_fifoSide (by simp), receiveInv_iff.2 ⟨by simpa using hbts, fun key hk => ?_⟩,
    hdec.of_decoderSide (by simp)⟩
  obtain ⟨hpend, hmask, hkey⟩ := hwait key (by simpa using hk)
  exact ⟨by simp [evtPendAfter, hpend], by simpa using hmask, hkey⟩

theorem blockInv_applyReset {s : State} (hs : BlockInv s) : BlockInv (applyReset s) := by
  obtain ⟨⟨hn, _, _, _, hwf, hring, _⟩, _⟩ := hs
  exact ⟨fifoInv_applyReset hn hwf hring, receiveInv_applyReset s, decoderInv_applyReset s⟩

/-- Settles O48: a step is a reset, or one turn with its event recorded and the inputs moved on. -/
theorem everyStepKeepsTheInvariant : Obligations.EveryStepKeepsTheInvariant := by
  intro s t hs h
  rcases step_cases h with ⟨_, rfl⟩ | ⟨_, u, hturn, rfl⟩
  · exact blockInv_nextInputs (blockInv_applyReset hs)
  · exact blockInv_endStep (turn_keeps_blockInv hs hturn)

end Sys2Proof.Machine

namespace Sys2Proof.Machine

/-! ### `addr_consumed` (10_state R27, 41_classifier R160): what each operation does with it -/

@[simp] theorem releaseAndEnd_addrConsumed (s : State) : (releaseAndEnd s).addrConsumed = s.addrConsumed := rfl

@[simp] theorem startTransaction_addrConsumed (s : State) : (startTransaction s).addrConsumed = s.addrConsumed := by
  rw [startTransaction_eq]

@[simp] theorem awaitCollision_addrConsumed (key : Key) (s : State) :
    (awaitCollision key s).addrConsumed = s.addrConsumed := by
  rcases awaitCollision_cases key s with ⟨_, heq⟩ | ⟨_, heq⟩ <;> simp [heq, consumedAfter]

theorem addrConsumed_eq_of_receiveSide {s t : State} (h : receiveSide t = receiveSide s) :
    t.addrConsumed = s.addrConsumed := by
  simpa using congrArg State.addrConsumed h

theorem receiveByte_keeps_addrConsumed {s t : State} (h : receiveByte s = .next t) :
    t.addrConsumed = s.addrConsumed := by
  obtain ⟨u, hput, rfl⟩ := receiveByte_cases h
  rw [ringPut_frame hput]
  cases u.putErr <;> rfl

/-- A data write reads `addr_consumed` only (41_classifier R157). -/
theorem execDataWrite_keeps_addrConsumed {bf nak : Bool} {s t : State} (h : execDataWrite bf nak s = .next t) :
    t.addrConsumed = s.addrConsumed := by
  obtain ⟨u, hbyte, hend⟩ := andThen_eq_next.1 h
  cases hend
  simpa [consumedAfter] using receiveByte_keeps_addrConsumed hbyte

/-! #### DataRead, fresh and waiting (41_classifier R154; log entry 17) -/

theorem exec_dataRead_fresh {s : State} (consumed bf nak : Bool) (hfresh : s.rxHold = none) :
    exec (.dataRead consumed bf nak) s =
      .next (awaitCollision (keyBits consumed true true true bf nak)
        (emit .clrWcol (emit (.classValid .dataRead) s))) := by
  simp [exec, execDataRead, hfresh]

theorem exec_dataRead_waiting {s : State} {key : Key} (consumed bf nak : Bool) (hwait : s.rxHold = some key) :
    exec (.dataRead consumed bf nak) s = .next (awaitCollision key s) := by
  simp [exec, execDataRead, hwait]

theorem awaitCollision_of_wcol {s : State} (key : Key) (hwcol : s.pins.wcol = true) :
    awaitCollision key s = { s with rxHold := some key } := by
  simp [awaitCollision, hwcol]

/-- With the collision clear the event ends in the data phase, `addr_consumed` as before (41_classifier R157). -/
theorem awaitCollision_of_not_wcol {s : State} (key : Key) (hwcol : s.pins.wcol = false) :
    awaitCollision key s = { s with
      bts := .inDataPhase
      evtPend := false
      rxHold := none
      emitted := s.emitted ++ [.clkRelease] } := by
  simp [awaitCollision, hwcol, releaseAndEnd, classify, endEvent, emit, btsAfter, consumedAfter]

/-- Settles O13: fresh or waiting, the step is `awaitCollision`, which `wcol_i` decides. -/
theorem dataReadWaitsForCollisionClear : Obligations.DataReadWaitsForCollisionClear := by
  intro s consumed bf nak
  refine ⟨rfl, fun hfresh hwcol => ?_, fun hfresh hwcol => ?_, fun hwait hwcol => ?_, fun hwait hwcol => ?_⟩
  · rw [exec_dataRead_fresh _ _ _ hfresh, awaitCollision_of_not_wcol (s := emit _ (emit _ s)) _ hwcol]
    simp [emit, hfresh]
  · rw [exec_dataRead_fresh _ _ _ hfresh, awaitCollision_of_wcol (s := emit _ (emit _ s)) _ hwcol]
    simp [emit]
  · obtain ⟨key, hkey⟩ := Option.ne_none_iff_exists'.1 hwait
    rw [exec_dataRead_waiting _ _ _ hkey, awaitCollision_of_wcol _ hwcol, ← hkey]
  · obtain ⟨key, hkey⟩ := Option.ne_none_iff_exists'.1 hwait
    rw [exec_dataRead_waiting _ _ _ hkey, awaitCollision_of_not_wcol _ hwcol]

/-! #### Every instruction, every turn -/

/-- 41_classifier R157 over all instructions: an AddressWrite sets `addr_consumed`, an AddressRead clears it, and
nothing else writes it. -/
theorem exec_addrConsumed_cases {i : Instr} {s t : State} (h : exec i s = .next t) :
    t.addrConsumed = s.addrConsumed ∨
    (t.addrConsumed = true ∧ ∃ c bf nak, i = .addressWrite c bf nak) ∨
    (t.addrConsumed = false ∧ ∃ c bf nak, i = .addressRead c bf nak) := by
  cases i with
  | addressWrite c bf nak => cases h; exact .inr (.inl ⟨by simp [consumedAfter], c, bf, nak, rfl⟩)
  | addressRead c bf nak => cases h; exact .inr (.inr ⟨by simp [consumedAfter], c, bf, nak, rfl⟩)
  | dataWrite bf nak => exact .inl (execDataWrite_keeps_addrConsumed (bf := bf) (nak := nak) h)
  | dataRead c bf nak =>
    left
    cases hhold : s.rxHold with
    | none => rw [exec_dataRead_fresh _ _ _ hhold] at h; cases h; simp
    | some key => rw [exec_dataRead_waiting _ _ _ hhold] at h; cases h; simp
  | idle key => cases h; exact .inl rfl
  | put | get | state => rw [exec_fifoPort_frame rfl h]; exact .inl rfl
  | _ => exact .inl (addrConsumed_eq_of_receiveSide (exec_frameHdr_keeps_receiveSide rfl h))

theorem controlStep_keeps_addrConsumed {c : Control} {s t : State} (h : controlStep c s = .next t) :
    t.addrConsumed = s.addrConsumed := by
  by_cases hc : c = .done
  · subst hc
    cases h
    rfl
  · exact addrConsumed_eq_of_receiveSide (controlStep_keeps_receiveSide hc h)

theorem takeTurn_addrConsumed_cases {r : Turn} {s t : State} (h : takeTurn r s = .next t) :
    t.addrConsumed = s.addrConsumed ∨
    (t.addrConsumed = true ∧ ∃ c bf nak, r = .run (.addressWrite c bf nak)) ∨
    (t.addrConsumed = false ∧ ∃ c bf nak, r = .run (.addressRead c bf nak)) := by
  cases r with
  | run i => simpa using exec_addrConsumed_cases h
  | control c => exact .inl (controlStep_keeps_addrConsumed h)

/-- Settles O17: `rst` leaves `addr_consumed` at 0, and a turn that changes it is an address event. -/
theorem addrConsumedFollowsAddressEvents : Obligations.AddrConsumedFollowsAddressEvents := by
  intro s t h
  rcases step_cases h with ⟨hrst, rfl⟩ | ⟨hrst, u, hturn, rfl⟩
  · have hclear : (nextInputs (applyReset s)).addrConsumed = false := by simp [applyReset, State.reset]
    exact ⟨fun _ hrise => absurd (hclear.symm.trans hrise) Bool.false_ne_true, fun _ _ => .inl hrst⟩
  rw [endStep_addrConsumed]
  rcases takeTurn_addrConsumed_cases hturn with hsame | ⟨hset, hwrite⟩ | ⟨hclear, hread⟩
  · have hkeep : u.addrConsumed = s.addrConsumed := hsame
    rw [hkeep]
    cases s.addrConsumed <;> simp
  · exact ⟨fun _ _ => ⟨hrst, hwrite⟩, fun _ hfall => by simp [hset] at hfall⟩
  · exact ⟨fun _ hrise => by simp [hclear] at hrise, fun _ _ => .inr hread⟩

/-! ### The truth table (41_classifier R156) -/

/-- The key of a snapshot, bit by bit: {addr_consumed, S, DA, RW, BF, NAK} (10_state R34, 30_encoding R97). -/
theorem mkKey_eq_keyBits (consumed : Bool) (snap : Snap) :
    mkKey consumed snap = keyBits consumed (snap.getLsbD 4) (snap.getLsbD 3) (snap.getLsbD 2) (snap.getLsbD 1)
      (snap.getLsbD 0) := by
  revert consumed snap
  decide

/-- Settles O15: the four bits the table reads select the row. -/
theorem classificationFollowsTheTruthTable : Obligations.ClassificationFollowsTheTruthTable := by
  intro consumed snap
  rw [mkKey_eq_keyBits, decodeKey_keyBits, idleKey_keyBits]
  cases snap.getLsbD 4 with
  | false => rfl
  | true =>
    cases snap.getLsbD 3 with
    | false => cases snap.getLsbD 2 <;> rfl
    | true =>
      cases snap.getLsbD 2 with
      | true => rfl
      | false => cases consumed <;> rfl

end Sys2Proof.Machine

namespace Sys2Proof.Machine

/-! ### Address events and the Idle event (42_receive R171, R172, R175) -/

/-- The actions that the two address events share, from the classifier's registers to the clock release. -/
theorem releaseAndEnd_startTransaction (c : EventClass) (s : State) :
    releaseAndEnd (startTransaction (classify c s)) = { s with
      addrConsumed := consumedAfter c s.addrConsumed
      bts := btsAfter c s.bts
      rxIdx := 0
      declSize := 0
      evtPend := false
      rxHold := none
      emitted := s.emitted ++ (if s.params.addrEventReadsData then [.rxRd] else []) ++ [.clkRelease] } := by
  rw [startTransaction_eq]
  rfl

/-- Settles O10: the two pulses of the class stand before those of `releaseAndEnd_startTransaction` (42_receive R176). -/
theorem addressWriteStartsATransaction : Obligations.AddressWriteStartsATransaction := by
  intro s consumed bf nak
  rw [exec, execAddressWrite, releaseAndEnd_startTransaction]
  simp only [emit, consumedAfter, btsAfter, List.append_assoc, List.cons_append, List.nil_append]

/-- Settles O11: as O10, with no clear of the overflow. -/
theorem addressReadAbandonsTheTransaction : Obligations.AddressReadAbandonsTheTransaction := by
  intro s consumed bf nak
  rw [exec, execAddressRead, releaseAndEnd_startTransaction]
  rfl

/-- Settles O14: an Idle event is its end alone. -/
theorem idleEventOnlyClearsPending : Obligations.IdleEventOnlyClearsPending := fun _ _ => rfl

/-! ### A data-write event (42_receive R173) -/

/-- What a data-write event does before its byte is read: `class_valid_o`, `clr_ov_o`, the classifier's registers. -/
def enterDataWrite (s : State) : State :=
  classify .dataWrite (emit .clrOv (emit (.classValid .dataWrite) s))

theorem enterDataWrite_eq (s : State) : enterDataWrite s =
    { s with bts := .inDataPhase, emitted := s.emitted ++ [.classValid .dataWrite, .clrOv] } := by
  simp [enterDataWrite, classify, emit, consumedAfter, btsAfter]

theorem exec_dataWrite (bf nak : Bool) (s : State) :
    exec (.dataWrite bf nak) s = andThen (receiveByte (enterDataWrite s)) fun t => .next (releaseAndEnd t) := rfl

theorem frameCompletes_iff (rxIdx declNow : Byte) :
    frameCompletes rxIdx declNow = true ↔ rxIdx = declNow ∧ rxIdx ≠ 0 := by
  simp [frameCompletes]

theorem countByte_eq (b : Byte) (s : State) : countByte b s = { s with
    declSize := declSizeNow s b
    completedFrameCount :=
      if s.rxIdx = declSizeNow s b ∧ s.rxIdx ≠ 0 then s.completedFrameCount + 1 else s.completedFrameCount
    rxIdx := s.rxIdx + 1 } := by
  simp only [countByte, frameCompletes_iff]

theorem receiveByte_accepts {s : State} (hf : s.fill ≠ .full) (hw : s.wrIdx < s.params.n) :
    receiveByte s = .next (countByte s.pins.rxData { s with
      ring := Memory.write s.ring s.wrIdx s.pins.rxData
      wrIdx := nextIdx s.params s.wrIdx
      fill := fillAfterPut (nextIdx s.params s.wrIdx) s.rdIdx
      putErr := false
      emitted := s.emitted ++ [.rxRd] }) := by
  rw [receiveByte, ringPut_accepts (s := emit .rxRd s) _ hf hw]
  rfl

theorem receiveByte_loses {s : State} (hf : s.fill = .full) :
    receiveByte s = .next (countByte s.pins.rxData { s with
      putErr := true
      emitted := s.emitted ++ [.rxRd, .rxLost] }) := by
  rw [receiveByte, ringPut_full (s := emit .rxRd s) _ hf]
  simp [raise, emit]

theorem exec_dataWrite_accepts {s : State} (bf nak : Bool) (hf : s.fill ≠ .full) (hw : s.wrIdx < s.params.n) :
    exec (.dataWrite bf nak) s = .next { countByte s.pins.rxData s with
      ring := Memory.write s.ring s.wrIdx s.pins.rxData
      wrIdx := nextIdx s.params s.wrIdx
      fill := fillAfterPut (nextIdx s.params s.wrIdx) s.rdIdx
      putErr := false
      bts := .inDataPhase
      evtPend := false
      rxHold := none
      emitted := s.emitted ++ [.classValid .dataWrite, .clrOv, .rxRd, .clkRelease] } := by
  rw [exec_dataWrite, receiveByte_accepts (s := enterDataWrite s) hf hw, enterDataWrite_eq, andThen_next]
  simp only [releaseAndEnd, endEvent, emit, countByte, List.append_assoc, List.cons_append, List.nil_append]
  rfl

theorem exec_dataWrite_loses {s : State} (bf nak : Bool) (hf : s.fill = .full) :
    exec (.dataWrite bf nak) s = .next { countByte s.pins.rxData s with
      putErr := true
      bts := .inDataPhase
      evtPend := false
      rxHold := none
      emitted := s.emitted ++ [.classValid .dataWrite, .clrOv, .rxRd, .rxLost, .clkRelease] } := by
  rw [exec_dataWrite, receiveByte_loses (s := enterDataWrite s) hf, enterDataWrite_eq, andThen_next]
  simp only [releaseAndEnd, endEvent, emit, countByte, List.append_assoc, List.cons_append, List.nil_append]
  rfl

/-- Settles O12: the two answers of `put`, with the same bookkeeping after either. -/
theorem dataWriteFollowsItsRule : Obligations.DataWriteFollowsItsRule := by
  intro s bf nak declNow count
  have hcount : countByte s.pins.rxData s =
      { s with declSize := declNow, completedFrameCount := count, rxIdx := s.rxIdx + 1 } := countByte_eq _ s
  refine ⟨fun hf hw => ⟨_, exec_dataWrite_accepts bf nak hf hw, Memory.read_write_same _ _ _,
    fun a ha => Memory.read_write_other _ _ _ _ ha, ?_⟩, fun hf => ?_⟩
  · rw [hcount]
    rfl
  · rw [exec_dataWrite_loses bf nak hf, hcount]

/-- The PendingFrame registers and the count of `t` are those of `s` with the received byte of `s` counted in. -/
structure ByteCounted (s t : State) : Prop where
  rxIdx_eq : t.rxIdx = s.rxIdx + 1
  declSize_eq : t.declSize = declSizeNow s s.pins.rxData
  count_eq : t.completedFrameCount = if frameCompletes s.rxIdx (declSizeNow s s.pins.rxData)
    then s.completedFrameCount + 1 else s.completedFrameCount

/-- The bookkeeping lines run after `put`, whatever it answered. -/
theorem receiveByte_counts {s t : State} (h : receiveByte s = .next t) : ByteCounted s t := by
  obtain ⟨u, hput, rfl⟩ := receiveByte_cases h
  rw [ringPut_frame hput]
  cases u.putErr <;> exact ⟨rfl, rfl, rfl⟩

theorem exec_dataWrite_counts {bf nak : Bool} {s t : State} (h : exec (.dataWrite bf nak) s = .next t) :
    ByteCounted s t := by
  rw [exec_dataWrite, enterDataWrite_eq] at h
  obtain ⟨u, hbyte, hend⟩ := andThen_eq_next.1 h
  cases hend
  obtain ⟨hidx, hdecl, hcount⟩ := receiveByte_counts hbyte
  exact ⟨hidx, hdecl, hcount⟩

/-- `put` answers Ok or Err(Full), and the event goes on after either. -/
theorem receiveByte_answers {s : State} (hs : FifoInv s) : ∃ t, receiveByte s = .next t := by
  have hread : FifoInv (emit .rxRd s) := hs.of_fifoSide (fifoSide_emit _ s)
  obtain ⟨u, hput, _⟩ := ringPut_queue s.pins.rxData hread
  exact ⟨_, by rw [receiveByte, hput, andThen_next]⟩

theorem exec_dataWrite_answers (bf nak : Bool) {s : State} (hs : FifoInv s) :
    ∃ t, exec (.dataWrite bf nak) s = .next t := by
  have henter : FifoInv (enterDataWrite s) := hs.of_fifoSide (by simp [enterDataWrite])
  obtain ⟨u, hbyte⟩ := receiveByte_answers henter
  exact ⟨_, by rw [exec_dataWrite, hbyte, andThen_next]⟩

/-! ### A whole frame (42_receive R177) -/

/-- `s` with `b` as the received byte, as `receiveAll` presents each of its bytes. -/
def presentRxData (b : Byte) (s : State) : State := { s with pins := { s.pins with rxData := b } }

theorem receiveAll_cons (b : Byte) (bs : List Byte) (s : State) :
    receiveAll (b :: bs) s = andThen (exec (.dataWrite true false) (presentRxData b s)) (receiveAll bs) := rfl

/-- The first `k` bytes of a frame of declared size `size` have come; `count` frames were counted before it. -/
structure InFrame (size count : Byte) (k : Nat) (s : State) : Prop where
  fifoInv : FifoInv s
  rxIdx_eq : s.rxIdx.toNat = k
  declSize_eq : 2 ≤ k → s.declSize = size - 1
  count_eq : s.completedFrameCount = if k = size.toNat then count + 1 else count

namespace InFrame

variable {size count : Byte} {k : Nat} {s : State}

theorem presented (h : InFrame size count k s) (b : Byte) : InFrame size count k (presentRxData b s) :=
  ⟨h.fifoInv, h.rxIdx_eq, h.declSize_eq, h.count_eq⟩

/-- From the size byte on, the size in use is the declared one: captured and used at once (42_receive R173). -/
theorem declSizeNow_eq (h : InFrame size count k s) (hk : 1 ≤ k) {b : Byte} (hb : k = 1 → b = size) :
    declSizeNow s b = size - 1 := by
  have hrx := h.rxIdx_eq
  rcases Nat.eq_or_lt_of_le hk with rfl | hk2
  · have hone : s.rxIdx = 1 := BitVec.eq_of_toNat_eq hrx
    rw [declSizeNow, if_pos hone, declSizeOf, hb rfl]
  · have hmore : s.rxIdx ≠ 1 := by bv_omega
    rw [declSizeNow, if_neg hmore, h.declSize_eq hk2]

/-- The completion test is met by the last byte alone. -/
theorem completes_iff (h : InFrame size count k s) (hsize : 2 ≤ size.toNat) {b : Byte} (hb : k = 1 → b = size) :
    frameCompletes s.rxIdx (declSizeNow s b) = true ↔ k + 1 = size.toNat := by
  have hrx := h.rxIdx_eq
  rw [frameCompletes_iff]
  rcases Nat.eq_zero_or_pos k with rfl | hk
  · have hfirst : s.rxIdx = 0 := BitVec.eq_of_toNat_eq hrx
    exact ⟨fun hlast => absurd hfirst hlast.2, fun hlast => by omega⟩
  · rw [h.declSizeNow_eq hk hb]
    bv_omega

/-- One more byte of the frame, taken or lost. -/
theorem after_dataWrite (h : InFrame size count k s) (hsize : 2 ≤ size.toNat) (hk : k < size.toNat)
    (hb : k = 1 → s.pins.rxData = size) (bf nak : Bool) :
    ∃ t, exec (.dataWrite bf nak) s = .next t ∧ InFrame size count (k + 1) t := by
  obtain ⟨t, ht⟩ := exec_dataWrite_answers bf nak h.fifoInv
  obtain ⟨hidx, hdecl, hcount⟩ := exec_dataWrite_counts ht
  refine ⟨t, ht, exec_keeps_fifoInv h.fifoInv ht, ?_, fun hk2 => ?_, ?_⟩
  · have hrx := h.rxIdx_eq
    rw [hidx]
    bv_omega
  · rw [hdecl, h.declSizeNow_eq (Nat.le_of_succ_le_succ hk2) hb]
  · simp only [hcount, h.completes_iff hsize hb, h.count_eq, if_neg hk.ne]

/-- Any further bytes of the frame; the one at index 1 of the frame declares the size. -/
theorem after_bytes (bs : List Byte) (h : InFrame size count k s) (hsize : 2 ≤ size.toNat)
    (hlen : k + bs.length ≤ size.toNat) (hb : ∀ i b, bs[i]? = some b → k + i = 1 → b = size) :
    ∃ t, receiveAll bs s = .next t ∧ InFrame size count (k + bs.length) t := by
  induction bs generalizing k s with
  | nil => exact ⟨s, rfl, h⟩
  | cons b bs ih =>
    have hnext : k + (b :: bs).length = k + 1 + bs.length := by rw [List.length_cons]; omega
    rw [hnext] at hlen ⊢
    obtain ⟨u, hu, hin⟩ := (h.presented b).after_dataWrite hsize (by omega) (hb 0 b rfl) true false
    obtain ⟨t, ht, hout⟩ := ih hin hlen fun i c hc hi => hb (i + 1) c hc (by omega)
    exact ⟨t, by rw [receiveAll_cons, hu, andThen_next, ht], hout⟩

/-- The first `k` bytes of a frame that starts with `frame_id` and `frame_size`. -/
theorem after_front {id : Byte} {rest : List Byte} (h : InFrame size count 0 s) (hsize : 2 ≤ size.toNat)
    (hlen : rest.length + 2 = size.toNat) (hk : k ≤ size.toNat) :
    ∃ t, receiveAll ((id :: size :: rest).take k) s = .next t ∧ InFrame size count k t := by
  have hfront : 0 + ((id :: size :: rest).take k).length = k := by
    rw [Nat.zero_add, List.length_take_of_le (by simpa [hlen] using hk)]
  have hdeclares : ∀ i b, ((id :: size :: rest).take k)[i]? = some b → 0 + i = 1 → b = size := by
    intro i b hb hi
    obtain rfl : i = 1 := by omega
    rw [List.getElem?_take, Option.ite_none_right_eq_some] at hb
    simpa using hb.2.symm
  obtain ⟨t, ht, hout⟩ := h.after_bytes _ hsize (by omega) hdeclares
  exact ⟨t, ht, hfront ▸ hout⟩

end InFrame

/-- An AddressWrite stands before the first byte of a frame, of whatever size. -/
theorem inFrame_of_addressWrite {consumed bf nak : Bool} {s a : State} {size : Byte} (hs : FifoInv s)
    (hsize : 2 ≤ size.toNat) (h : exec (.addressWrite consumed bf nak) s = .next a) :
    InFrame size s.completedFrameCount 0 a := by
  have hinv : FifoInv a := exec_keeps_fifoInv hs h
  rw [addressWriteStartsATransaction] at h
  cases h
  exact ⟨hinv, rfl, nofun, (if_neg (by omega)).symm⟩

/-- Settles O18: `InFrame` holds after the AddressWrite and after each byte, and its count rises at the last one. -/
theorem frameIsCountedOnceAtItsLastByte : Obligations.FrameIsCountedOnceAtItsLastByte := by
  intro s consumed bf nak id size rest hs hsize hlen
  have haddr := addressWriteStartsATransaction s consumed bf nak
  have hin := inFrame_of_addressWrite hs hsize haddr
  obtain ⟨t, ht, hout⟩ := hin.after_front (id := id) hsize hlen le_rfl
  rw [List.take_of_length_le (by simp [hlen])] at ht
  refine ⟨_, t, haddr, ht, hout.count_eq.trans (if_pos rfl), BitVec.eq_of_toNat_eq hout.rxIdx_eq,
    hout.declSize_eq hsize, fun k u hk hu => ?_⟩
  obtain ⟨v, hv, hmid⟩ := hin.after_front (id := id) hsize hlen hk.le
  cases hv.symm.trans hu
  exact hmid.count_eq.trans (if_neg hk.ne)

/-! ### The step of an instruction (42_receive R170, 43_decoder R206; log entry 1) -/

theorem step_of_run {s : State} {i : Instr} (hrst : s.pins.rst = false) (hturn : turn s = .run i) :
    step s = andThen (exec i (beginStep s)) fun t => .next (endStep t) := by
  simp [step, hrst, hturn, takeTurn]

theorem turn_of_strobe {s : State} {p : PortWord} (hfifo : s.pins.fifo = some p) :
    turn s = .run (decodePort p) := by
  simp [turn, hfifo]

theorem turn_of_receiveEnabled {s : State} (hfifo : s.pins.fifo = none) (hen : receiveEnabled s = true) :
    turn s = .run (decodeKey (eventKey s)) := by
  simp [turn, hfifo, hen]

theorem turn_of_command {s : State} (hfifo : s.pins.fifo = none) (hen : receiveEnabled s = false)
    (hd : s.dstate = .dispatch ∨ inCommand s = true) : turn s = .run (decodeHeader (headerOf s)) := by
  have hcommand : decoderTurn s = .run (decodeHeader (headerOf s)) := by
    unfold inCommand at hd
    unfold decoderTurn
    cases hstate : s.dstate <;> simp_all
  simp [turn, hfifo, hen, hcommand]

/-- Settles O16: with no step waiting the key is of this step's snapshot, and O15 classifies it. -/
theorem receiveStepRunsTheClassOfTheTruthTable : Obligations.ReceiveStepRunsTheClassOfTheTruthTable := by
  intro s hrst hfifo hpend hmask hhold
  have hen : receiveEnabled s = true := by simp [receiveEnabled, hpend, hmask]
  have hkey : eventKey s = mkKey s.addrConsumed s.pins.snap := by simp [eventKey, hhold]
  refine ⟨_, step_of_run hrst (turn_of_receiveEnabled hfifo hen), ?_⟩
  rw [hkey, classificationFollowsTheTruthTable]
  cases s.pins.snap.getLsbD 4 with
  | false => rfl
  | true =>
    cases s.pins.snap.getLsbD 2 with
    | true => cases s.pins.snap.getLsbD 3 <;> rfl
    | false =>
      cases s.pins.snap.getLsbD 3 with
      | false => rfl
      | true => cases s.addrConsumed <;> rfl

/-- The three places an instruction word comes from (log entry 3): what decodes there has the turn. -/
theorem turn_of_decode {s : State} {i : Instr}
    (h : (∃ p, s.pins.fifo = some p ∧ decode .fifoPort [p.zeroExtend 8] = .ok (i, [])) ∨
      (s.pins.fifo = none ∧ receiveEnabled s = true ∧ decode .snapshotKey [keyByte (eventKey s)] = .ok (i, [])) ∨
      (s.pins.fifo = none ∧ receiveEnabled s = false ∧ (s.dstate = .dispatch ∨ inCommand s = true) ∧
        decode .frameHdr [s.frameId, s.frameSize] = .ok (i, []))) : turn s = .run i := by
  rcases h with ⟨p, hfifo, hdec⟩ | ⟨hfifo, hen, hdec⟩ | ⟨hfifo, hen, hd, hdec⟩
  · cases (decode_port_byte p).symm.trans hdec
    exact turn_of_strobe hfifo
  · cases (decode_key_byte (eventKey s)).symm.trans hdec
    exact turn_of_receiveEnabled hfifo hen
  · cases (decode_header_bytes s.frameId s.frameSize).symm.trans hdec
    exact turn_of_command hfifo hen hd

/-- Settles O34: the decoded instruction has the turn, and the step passes on each of `exec`'s three outcomes. -/
theorem stepRunsTheDecodedInstruction : Obligations.StepRunsTheDecodedInstruction := by
  intro s i hrst _ hword
  have hstep := step_of_run hrst (turn_of_decode hword)
  rw [beginStep] at hstep
  refine ⟨fun t ht => ?_, fun f hf => ?_, fun r hr => ?_⟩
  · rw [hstep, ht]
    rfl
  · rw [hstep, hf, andThen_fault]
  · rw [hstep, hr, andThen_refused]

end Sys2Proof.Machine

namespace Sys2Proof.Machine

/-! ### The steps of a command, by `dstate` (43_decoder R193, R202, R203) -/

theorem commandStep_of_dispatch {b w : State → State} {c : State → Result} {s : State} (hd : s.dstate = .dispatch) :
    commandStep b c w s = .next (b s) := by
  simp [commandStep, hd]

theorem commandStep_of_waitDisp {b w : State → State} {c : State → Result} {s : State} (hd : s.dstate = .waitDisp) :
    commandStep b c w s = .next (w s) := by
  simp [commandStep, hd]

/-- The empty string is the one string that DISPATCH ends (43_decoder R198). -/
theorem dispatchString_eq (size : Byte) (s : State) : dispatchString size s = { s with
    payCnt := 0
    payNeed := 1
    remaining := size - 2
    dstate := if size = 2 then .done else .getPayload
    decStatus := if size = 2 then .ok else s.decStatus } := by
  unfold dispatchString stringLength
  split <;> rfl

/-- Settles O20: each row is the `begin_` of its command. -/
theorem dispatchFollowsItsTable : Obligations.DispatchFollowsItsTable := by
  intro s id size i hd
  refine ⟨commandStep_of_dispatch hd, commandStep_of_dispatch hd, commandStep_of_dispatch hd,
    commandStep_of_dispatch hd, commandStep_of_dispatch hd, ?_, commandStep_of_dispatch hd, fun hi => ?_⟩
  · rw [← dispatchString_eq]
    exact commandStep_of_dispatch hd
  · rcases hi with rfl | rfl | rfl | rfl | rfl | rfl <;> exact commandStep_of_dispatch hd

/-- Settles O21: each call is the `call` of its command. -/
theorem callStepOffersTheCommandsCall : Obligations.CallStepOffersTheCommandsCall := fun _ _ hd =>
  ⟨commandStep_call hd, commandStep_call hd, commandStep_call hd, commandStep_call hd, commandStep_call hd,
    commandStep_call hd⟩

/-- A case on the header is a case on the state reached. -/
theorem exec_ite {p : Prop} [Decidable p] {i j : Instr} {s t u : State} (hi : p → exec i s = .next t)
    (hj : ¬ p → exec j s = .next u) : exec (if p then i else j) s = .next (if p then t else u) := by
  split
  · exact hi ‹_›
  · exact hj ‹_›

/-- Settles O19: R193's case on the identifier and the size is the decoder's own, and O20 gives each row its step. -/
theorem dispatchChecksTheSizeByIdentifier : Obligations.DispatchChecksTheSizeByIdentifier := by
  intro s hd t malformed fixed
  have hmalformed : malformedStep s = .next malformed := commandStep_of_dispatch hd
  obtain ⟨hclear, hhome, hcursor, hchar, hcontrol, hstring, hunknown, _⟩ :=
    dispatchFollowsItsTable s s.frameId s.frameSize .state hd
  rw [headerOf, decodeHeader_eq]
  refine exec_ite (fun _ => exec_ite (fun _ => hclear) fun _ => hmalformed) fun _ =>
    exec_ite (fun _ => exec_ite (fun _ => hhome) fun _ => hmalformed) fun _ =>
    exec_ite (fun _ => exec_ite (fun _ => hcursor) fun _ => hmalformed) fun _ =>
    exec_ite (fun _ => exec_ite (fun _ => hchar) fun _ => hmalformed) fun _ =>
    exec_ite (fun _ => exec_ite (fun _ => hmalformed) fun _ => ?_) fun _ =>
    exec_ite (fun _ => exec_ite (fun _ => hcontrol) fun _ => hmalformed) fun _ => hunknown
  rw [hstring]
  split
  next hempty => simp [t, hempty]
  next => rfl

/-- The byte goes to the register that `k` names, and the other two keep theirs (10_state R28). -/
theorem setArg_eq {k : BitVec 2} (hk : k ≠ 3) (b : Byte) (s : State) : setArg k b s = .next { s with
    arg0 := if k = 0 then b else s.arg0
    arg1 := if k = 1 then b else s.arg1
    arg2 := if k = 2 then b else s.arg2 } := by
  obtain rfl | rfl | rfl : k = 0 ∨ k = 1 ∨ k = 2 := by bv_omega
  all_goals rfl

theorem getPayloadStep_accepts {s : State} (hf : s.fill ≠ .empty) (hr : s.rdIdx < s.params.n) (hcnt : s.payCnt ≠ 3) :
    getPayloadStep s = .next { s with
      rdIdx := nextIdx s.params s.rdIdx
      fill := fillAfterGet (nextIdx s.params s.rdIdx) s.wrIdx
      getErr := false
      getData := Memory.read s.ring s.rdIdx
      arg0 := if s.payCnt = 0 then Memory.read s.ring s.rdIdx else s.arg0
      arg1 := if s.payCnt = 1 then Memory.read s.ring s.rdIdx else s.arg1
      arg2 := if s.payCnt = 2 then Memory.read s.ring s.rdIdx else s.arg2
      payCnt := s.payCnt + 1
      dstate := if s.payCnt + 1 = s.payNeed then .call else .getPayload } := by
  rw [getPayloadStep, ringGet_accepts s hf hr, andThen_next]
  simp [storePayload, setArg_eq hcnt]

/-- `s` after a `get` that an Empty ring refused: the cycle goes to REPORT (43_decoder R191, R192, R202). -/
def abortOnEmpty (s : State) : State :=
  { s with
    getErr := true
    getData := Config.emptyGetData s.freeCount
    freeCount := s.freeCount + 1
    dstate := .report }

theorem getPayloadStep_aborts {s : State} (hf : s.fill = .empty) : getPayloadStep s = .next (abortOnEmpty s) := by
  rw [getPayloadStep, ringGet_empty s hf, andThen_next]
  rfl

/-- Settles O22: every command has the one GET_PAYLOAD. -/
theorem getPayloadLoadsTheNextArgument : Obligations.GetPayloadLoadsTheNextArgument := by
  intro s size i hd hi
  have hpay : exec i s = getPayloadStep s := by
    rcases hi with rfl | rfl | rfl | rfl <;> exact exec_getPayload rfl hd
  rw [hpay]
  exact ⟨fun hf hr hcnt => getPayloadStep_accepts hf hr hcnt, fun hf => ⟨_, getPayloadStep_aborts hf, rfl⟩⟩

theorem waitDispOnce_holds {s : State} (hdone : s.pins.dispDone = false) : waitDispOnce s = s := by
  simp [waitDispOnce, hdone]

theorem waitDispOnce_ends {s : State} (hdone : s.pins.dispDone = true) :
    waitDispOnce s = finishCycle .ok (closeCall s) := by
  simp [waitDispOnce, hdone]

/-- Settles O23: the five commands of one call wait alike. -/
theorem waitDispEndsACommandOfOneCall : Obligations.WaitDispEndsACommandOfOneCall := by
  intro s i hd hi
  have hwait : exec i s = .next (waitDispOnce s) := by
    rcases hi with rfl | rfl | rfl | rfl | rfl <;> exact commandStep_of_waitDisp hd
  rw [hwait]
  exact ⟨fun hdone => by rw [waitDispOnce_holds hdone], fun hdone => by rw [waitDispOnce_ends hdone]; rfl⟩

theorem exec_putString_waitDisp {s : State} (size : Byte) (hd : s.dstate = .waitDisp) :
    exec (.putString size) s = .next (waitDispString s) :=
  commandStep_of_waitDisp hd

/-- Settles O24: whether a character is left after this one decides between GET_PAYLOAD and DONE. -/
theorem waitDispCountsACharacter : Obligations.WaitDispCountsACharacter := by
  intro s size hd _
  rw [exec_putString_waitDisp size hd]
  refine ⟨fun hdone => ?_, fun hdone hmore => ?_, fun hdone hlast => ?_⟩
  · simp [waitDispString, hdone]
  · have hleft : s.remaining - 1 ≠ 0 := by bv_omega
    simp only [waitDispString, hdone, if_true, if_neg hleft]
    rfl
  · have hnone : s.remaining - 1 = 0 := by rw [hlast]; rfl
    simp only [waitDispString, hdone, if_true, if_pos hnone]
    rw [hnone]
    rfl

/-! ### The control steps of the decoder (43_decoder R190 to R192, R204, R205) -/

theorem turn_of_decoder {s : State} (hfifo : s.pins.fifo = none) (hen : receiveEnabled s = false) :
    turn s = decoderTurn s := by
  simp [turn, hfifo, hen]

theorem step_of_control {s : State} {c : Control} (hrst : s.pins.rst = false) (hfifo : s.pins.fifo = none)
    (hen : receiveEnabled s = false) (hturn : decoderTurn s = .control c) :
    step s = andThen (controlStep c (beginStep s)) fun t => .next (endStep t) := by
  simp [step, hrst, turn_of_decoder hfifo hen, hturn, takeTurn]

theorem idleStep_eq (s : State) :
    idleStep s = { s with dstate := if s.completedFrameCount = 0 then s.dstate else .getId } := by
  unfold idleStep
  split <;> rfl

/-- Settles O25: the count decides whether IDLE is left. -/
theorem idleStartsOnACountedFrame : Obligations.IdleStartsOnACountedFrame := by
  intro s hrst hfifo hen hd
  rw [step_of_control hrst hfifo hen (c := .idle) (by simp [decoderTurn, hd]), controlStep, idleStep_eq,
    beginStep_dstate, hd]
  rfl

theorem getIdStep_accepts {s : State} (hf : s.fill ≠ .empty) (hr : s.rdIdx < s.params.n) :
    getIdStep s = .next { s with
      rdIdx := nextIdx s.params s.rdIdx
      fill := fillAfterGet (nextIdx s.params s.rdIdx) s.wrIdx
      getErr := false
      getData := Memory.read s.ring s.rdIdx
      frameId := Memory.read s.ring s.rdIdx
      dstate := .getSize } := by
  rw [getIdStep, ringGet_accepts s hf hr, andThen_next]
  rfl

theorem getSizeStep_accepts {s : State} (hf : s.fill ≠ .empty) (hr : s.rdIdx < s.params.n) :
    getSizeStep s = .next { s with
      rdIdx := nextIdx s.params s.rdIdx
      fill := fillAfterGet (nextIdx s.params s.rdIdx) s.wrIdx
      getErr := false
      getData := Memory.read s.ring s.rdIdx
      frameSize := Memory.read s.ring s.rdIdx
      dstate := .dispatch } := by
  rw [getSizeStep, ringGet_accepts s hf hr, andThen_next]
  rfl

theorem getIdStep_aborts {s : State} (hf : s.fill = .empty) : getIdStep s = .next (abortOnEmpty s) := by
  rw [getIdStep, ringGet_empty s hf, andThen_next]
  rfl

theorem getSizeStep_aborts {s : State} (hf : s.fill = .empty) : getSizeStep s = .next (abortOnEmpty s) := by
  rw [getSizeStep, ringGet_empty s hf, andThen_next]
  rfl

/-- Settles O26: each of the two states is one `get`. -/
theorem headerIsFetchedByTwoGets : Obligations.HeaderIsFetchedByTwoGets := by
  intro s hrst hfifo hen hr hd
  rcases hd with hd | hd
  · have hturn : decoderTurn s = .control .getId := by simp [decoderTurn, hd]
    have hstep := step_of_control hrst hfifo hen hturn
    refine ⟨fun hf => ?_, fun hf => ⟨Config.emptyGetData s.freeCount, s.freeCount + 1, ?_⟩⟩
    · rw [hstep, controlStep, getIdStep_accepts (s := beginStep s) hf hr]
      simp [hd, beginStep, nextIdx, fillAfterGet]
    · rw [hstep, controlStep, getIdStep_aborts (s := beginStep s) hf]
      rfl
  · have hturn : decoderTurn s = .control .getSize := by simp [decoderTurn, hd]
    have hstep := step_of_control hrst hfifo hen hturn
    refine ⟨fun hf => ?_, fun hf => ⟨Config.emptyGetData s.freeCount, s.freeCount + 1, ?_⟩⟩
    · rw [hstep, controlStep, getSizeStep_accepts (s := beginStep s) hf hr]
      simp [hd, beginStep, nextIdx, fillAfterGet]
    · rw [hstep, controlStep, getSizeStep_aborts (s := beginStep s) hf]
      rfl

/-- Settles O27: REPORT offers, and WAIT_DIAG is decided by `diag_done_i`. -/
theorem bufferEmptyIsReportedThenEnds : Obligations.BufferEmptyIsReportedThenEnds := by
  intro s hrst hfifo hen
  refine ⟨fun hd => ?_, fun hd hdone => ?_, fun hd hdone => ?_⟩
  · rw [step_of_control hrst hfifo hen (c := .report) (by simp [decoderTurn, hd]), controlStep]
    simp [reportStep, offerReport, goto, emit, setMask, beginStep]
  · have hhold : waitDiagStep (beginStep s) = beginStep s := by simp [waitDiagStep, hdone]
    rw [step_of_control hrst hfifo hen (c := .waitDiag) (by simp [decoderTurn, hd]), controlStep, hhold]
    rfl
  · have hend : waitDiagStep (beginStep s) = finishCycle .bufferEmpty (closeReport (beginStep s)) := by
      simp [waitDiagStep, hdone]
    rw [step_of_control hrst hfifo hen (c := .waitDiag) (by simp [decoderTurn, hd]), controlStep, hend]
    simp [finishCycle, closeReport, setMask, beginStep]

/-- Settles O28: the DONE step is `endCycle`. -/
theorem doneCountsTheFrameOff : Obligations.DoneCountsTheFrameOff := by
  intro s hrst hfifo hen hd
  rw [step_of_control hrst hfifo hen (c := .done) (by simp [decoderTurn, hd]), controlStep]
  rfl

end Sys2Proof.Machine

namespace Sys2Proof.Machine

/-! ### What a receive step leaves unchanged (43_decoder R206, 60_exceptions R250) -/

theorem receiveByte_frame {s t : State} (h : receiveByte s = .next t) : t = { s with
    ring := t.ring, wrIdx := t.wrIdx, fill := t.fill, putErr := t.putErr, rxIdx := t.rxIdx,
    declSize := t.declSize, completedFrameCount := t.completedFrameCount, emitted := t.emitted } := by
  obtain ⟨u, hput, rfl⟩ := receiveByte_cases h
  rw [ringPut_frame hput]
  cases u.putErr <;> rfl

theorem awaitCollision_frame {key : Key} {s t : State} (h : awaitCollision key s = t) : t = { s with
    addrConsumed := t.addrConsumed, bts := t.bts, evtPend := t.evtPend, rxHold := t.rxHold,
    emitted := t.emitted } := by
  obtain ⟨_, heq⟩ | ⟨_, heq⟩ := awaitCollision_cases key s
  · cases heq.symm.trans h; rfl
  · cases heq.symm.trans h; rfl

/-- All that a bus event may write: the write side of the FIFO, the classifier's and the PendingFrame registers. -/
theorem exec_snapshotKey_frame {i : Instr} {s t : State} (hfmt : i.format = .snapshotKey) (h : exec i s = .next t) :
    t = { s with
      ring := t.ring, wrIdx := t.wrIdx, fill := t.fill, putErr := t.putErr, addrConsumed := t.addrConsumed,
      bts := t.bts, evtPend := t.evtPend, rxHold := t.rxHold, rxIdx := t.rxIdx, declSize := t.declSize,
      completedFrameCount := t.completedFrameCount, emitted := t.emitted } := by
  cases i with
  | addressWrite c bf nak =>
    rw [addressWriteStartsATransaction] at h
    cases h
    rfl
  | addressRead c bf nak =>
    rw [addressReadAbandonsTheTransaction] at h
    cases h
    rfl
  | dataWrite bf nak =>
    obtain ⟨u, hbyte, hend⟩ := andThen_eq_next.1 h
    cases hend
    rw [receiveByte_frame hbyte]
    simp [releaseAndEnd, endEvent, emit, classify, consumedAfter]
  | dataRead c bf nak =>
    cases hhold : s.rxHold with
    | none =>
      rw [exec_dataRead_fresh _ _ _ hhold] at h
      rw [awaitCollision_frame (Host.Outcome.next.inj h)]
      rfl
    | some key =>
      rw [exec_dataRead_waiting _ _ _ hhold] at h
      rw [awaitCollision_frame (Host.Outcome.next.inj h)]
  | idle key => cases h; rfl
  | _ => cases hfmt

/-- Settles O35: the step is a bus event's, and what no bus event writes no end of a step writes. -/
theorem receiveStepPreemptsTheDecoder : Obligations.ReceiveStepPreemptsTheDecoder := by
  intro s t hrst hfifo hpend hmask h
  have hen : receiveEnabled s = true := by simp [receiveEnabled, hpend, hmask]
  rw [step_of_run hrst (turn_of_receiveEnabled hfifo hen)] at h
  obtain ⟨u, hexec, hend⟩ := andThen_eq_next.1 h
  cases hend
  obtain ⟨_, hfmt, _⟩ := decodeKey_sound (eventKey s)
  rw [exec_snapshotKey_frame hfmt hexec]
  simp

/-! ### What a decoder step leaves unchanged (43_decoder R212) -/

@[simp] theorem receiveSide_params (s : State) : (receiveSide s).params = s.params := rfl
@[simp] theorem receiveSide_putErr (s : State) : (receiveSide s).putErr = s.putErr := rfl
@[simp] theorem receiveSide_pins (s : State) : (receiveSide s).pins = s.pins := rfl

/-- Settles O39: a decoder turn keeps the receive side but for the count. -/
theorem decoderStepWritesOnlyItsOwn : Obligations.DecoderStepWritesOnlyItsOwn := by
  intro s t hrst hfifo hen h
  obtain ⟨hreset, _⟩ | ⟨_, u, hturn, rfl⟩ := step_cases h
  · simp [hrst] at hreset
  rw [turn_of_decoder hfifo hen] at hturn
  obtain ⟨count, hside, _⟩ := decoderTurn_receiveSide hturn
  refine ⟨?_, ?_, ?_, ?_, ?_, ?_, ?_, ?_, ?_, ?_⟩
  · simpa using congrArg State.ring hside
  · simpa using congrArg State.wrIdx hside
  · simpa using congrArg State.putErr hside
  · simpa using congrArg State.rxIdx hside
  · simpa using congrArg State.declSize hside
  · simpa using congrArg State.addrConsumed hside
  · simpa using congrArg State.bts hside
  · simpa using congrArg State.rxHold hside
  · simpa using congrArg State.params hside
  · have hpins : u.pins = s.pins := by simpa using congrArg State.pins hside
    have hpend : u.evtPend = s.evtPend := by simpa using congrArg State.evtPend hside
    rw [endStep_evtPend, hpins, hpend, evtPendAfter]

/-! ### Where a Display Surface call is offered (43_decoder R203, R208) -/

/-- The calls among the output events of the last step. -/
def callsEmitted (s : State) : List PortEvent :=
  s.emitted.filter fun
    | .disp _ _ _ _ => true
    | _ => false

theorem mem_callsEmitted {s : State} {op : DispOp} {a b c : Byte} :
    PortEvent.disp op a b c ∈ callsEmitted s ↔ PortEvent.disp op a b c ∈ s.emitted := by
  simp [callsEmitted]

theorem callsEmitted_congr {s t : State} (h : t.emitted = s.emitted) : callsEmitted t = callsEmitted s := by
  rw [callsEmitted, h, callsEmitted]

@[simp] theorem callsEmitted_beginStep (s : State) : callsEmitted (beginStep s) = [] := rfl

@[simp] theorem callsEmitted_endStep (s : State) : callsEmitted (endStep s) = callsEmitted s :=
  callsEmitted_congr (by simp)

theorem getPayloadStep_keeps_emitted {s t : State} (h : getPayloadStep s = .next t) : t.emitted = s.emitted := by
  rcases getPayloadStep_cases h with ⟨_, u, hget, rfl⟩ | ⟨_, u, v, hget, harg, rfl⟩
  · rw [ringGet_frame hget]; rfl
  · rw [ringGet_frame hget] at harg
    rcases setArg_cases harg with ⟨_, rfl⟩ | ⟨_, rfl⟩ | ⟨_, rfl⟩ <;> rfl

theorem exec_dispatch_keeps_emitted {i : Instr} {s t : State} (hfmt : i.format = .frameHdr) (hd : s.dstate = .dispatch)
    (h : exec i s = .next t) : t.emitted = s.emitted := by
  rcases exec_dispatch_cases hfmt hd h with ⟨_, _, _, rfl⟩ | ⟨size, _, rfl⟩ | rfl | rfl
  · rfl
  · rw [dispatchString_eq]
  · rfl
  · rfl

theorem exec_waitDisp_keeps_emitted {i : Instr} {s t : State} (hfmt : i.format = .frameHdr) (hd : s.dstate = .waitDisp)
    (h : exec i s = .next t) : t.emitted = s.emitted := by
  rcases exec_waitDisp_cases hfmt hd h with rfl | ⟨_, _, rfl⟩
  · rcases waitDispOnce_cases s with ⟨_, heq⟩ | ⟨_, heq⟩ <;> rw [heq]
    rfl
  · rcases waitDispString_cases s with ⟨_, heq⟩ | ⟨_, _, heq⟩ | ⟨_, _, heq⟩ <;> rw [heq] <;> rfl

/-- A header that makes no call has no CALL step (log entry 14). -/
theorem payloadNeed_of_call {i : Instr} {s t : State} (hfmt : i.format = .frameHdr) (hd : s.dstate = .call)
    (h : exec i s = .next t) : ∃ need, payloadNeed i = some need := by
  cases i with
  | clearDisplay | returnHome | setCursor | putChar | controlDisplay | putString => exact ⟨_, rfl⟩
  | putStringShort | clearDisplayWrongSize | returnHomeWrongSize | setCursorWrongSize | putCharWrongSize
  | controlDisplayWrongSize | unknown =>
    exact absurd ((commandStep_call hd).symm.trans h) noCall_ne_next
  | addressWrite | dataWrite | addressRead | dataRead | idle | put | get | state => cases hfmt

@[simp] theorem callsEmitted_releaseAndEnd (s : State) : callsEmitted (releaseAndEnd s) = callsEmitted s := by
  simp [callsEmitted, releaseAndEnd]

theorem awaitCollision_callsEmitted (key : Key) (s : State) :
    callsEmitted (awaitCollision key s) = callsEmitted s := by
  rcases awaitCollision_cases key s with ⟨_, heq⟩ | ⟨_, heq⟩ <;> rw [heq]
  · rfl
  · exact callsEmitted_releaseAndEnd _

theorem receiveByte_keeps_callsEmitted {s t : State} (h : receiveByte s = .next t) :
    callsEmitted t = callsEmitted s := by
  obtain ⟨u, hput, rfl⟩ := receiveByte_cases h
  rw [ringPut_frame hput]
  cases u.putErr <;> simp [callsEmitted, countByte]

/-- A bus event offers no call. -/
theorem exec_snapshotKey_keeps_callsEmitted {i : Instr} {s t : State} (hfmt : i.format = .snapshotKey)
    (h : exec i s = .next t) : callsEmitted t = callsEmitted s := by
  cases i with
  | addressWrite c bf nak =>
    rw [addressWriteStartsATransaction] at h
    cases h
    cases s.params.addrEventReadsData <;> simp [callsEmitted]
  | addressRead c bf nak =>
    rw [addressReadAbandonsTheTransaction] at h
    cases h
    cases s.params.addrEventReadsData <;> simp [callsEmitted]
  | dataWrite bf nak =>
    rw [exec_dataWrite] at h
    obtain ⟨u, hbyte, hend⟩ := andThen_eq_next.1 h
    cases hend
    rw [callsEmitted_releaseAndEnd, receiveByte_keeps_callsEmitted hbyte, enterDataWrite_eq]
    simp [callsEmitted]
  | dataRead c bf nak =>
    cases hhold : s.rxHold with
    | none =>
      rw [exec_dataRead_fresh _ _ _ hhold] at h
      cases h
      rw [awaitCollision_callsEmitted]
      simp [callsEmitted]
    | some key =>
      rw [exec_dataRead_waiting _ _ _ hhold] at h
      cases h
      exact awaitCollision_callsEmitted key s
  | idle key => cases h; rfl
  | _ => cases hfmt

/-- A control step offers no call: REPORT offers a report, DONE ends the cycle. -/
theorem controlStep_keeps_callsEmitted {c : Control} {s t : State} (h : controlStep c s = .next t) :
    callsEmitted t = callsEmitted s := by
  cases c with
  | idle => cases h; rw [idleStep_eq]; rfl
  | getId =>
    obtain ⟨u, hget, ⟨_, rfl⟩ | ⟨_, rfl⟩⟩ := getIdStep_cases h <;> (rw [ringGet_frame hget]; rfl)
  | getSize =>
    obtain ⟨u, hget, ⟨_, rfl⟩ | ⟨_, rfl⟩⟩ := getSizeStep_cases h <;> (rw [ringGet_frame hget]; rfl)
  | report => cases h; simp [callsEmitted, reportStep, offerReport]
  | waitDiag =>
    cases h
    rcases waitDiagStep_cases s with ⟨_, heq⟩ | ⟨_, heq⟩ <;> rw [heq]
    rfl
  | done => cases h; simp [callsEmitted, endCycle]

/-- A command's step offers no call but in CALL, and there its own. -/
theorem exec_frameHdr_callsEmitted {i : Instr} {s t : State} (hfmt : i.format = .frameHdr)
    (hd : s.dstate = .dispatch ∨ inCommand s = true) (h : exec i s = .next t) :
    callsEmitted t = callsEmitted s ∨
    (s.dstate = .call ∧ (∃ need, payloadNeed i = some need) ∧
      ∃ a b c, callsEmitted t = callsEmitted s ++ [PortEvent.disp (callOp i) a b c]) := by
  cases hstate : s.dstate
  case dispatch => exact .inl (callsEmitted_congr (exec_dispatch_keeps_emitted hfmt hstate h))
  case getPayload =>
    rw [exec_getPayload hfmt hstate] at h
    exact .inl (callsEmitted_congr (getPayloadStep_keeps_emitted h))
  case call =>
    obtain ⟨need, hneed⟩ := payloadNeed_of_call hfmt hstate h
    obtain ⟨a2, rfl⟩ := exec_call hneed hstate h
    exact .inr ⟨rfl, ⟨need, hneed⟩, s.arg0, s.arg1, a2, by simp [callsEmitted, offerCall]⟩
  case waitDisp => exact .inl (callsEmitted_congr (exec_waitDisp_keeps_emitted hfmt hstate h))
  all_goals simp [hstate, inCommand] at hd

/-- The decoder runs a command in DISPATCH and from there to its last call, and a control step elsewhere. -/
theorem decoderTurn_run_or_control (s : State) :
    ((s.dstate = .dispatch ∨ inCommand s = true) ∧ decoderTurn s = .run (decodeHeader (headerOf s))) ∨
    ∃ c, decoderTurn s = .control c := by
  unfold decoderTurn inCommand
  cases s.dstate <;> simp

/-- 43_decoder R203, R208: the calls that one turn offers. -/
theorem turn_callsEmitted {s u : State} (h : takeTurn (turn s) (beginStep s) = .next u) :
    callsEmitted u = [] ∨
    (s.dstate = .call ∧ (∃ need, payloadNeed (decodeHeader (headerOf s)) = some need) ∧
      ∃ a b c, callsEmitted u = [PortEvent.disp (callOp (decodeHeader (headerOf s))) a b c]) := by
  rcases turn_cases s with ⟨p, _, hturn⟩ | ⟨_, _, hturn⟩ | ⟨_, _, hturn⟩ <;> rw [hturn] at h
  · obtain ⟨_, hfmt, _⟩ := decodePort_sound p
    rw [exec_fifoPort_frame hfmt h]
    exact .inl rfl
  · obtain ⟨_, hfmt, _⟩ := decodeKey_sound (eventKey s)
    exact .inl (exec_snapshotKey_keeps_callsEmitted hfmt h)
  · rcases decoderTurn_run_or_control s with ⟨hd, hrun⟩ | ⟨c, hrun⟩ <;> rw [hrun] at h
    · exact exec_frameHdr_callsEmitted (s := beginStep s) (decodeHeader_format _) hd h
    · exact .inl (controlStep_keeps_callsEmitted h)

/-- The codes of the calls that commands make (30_encoding R100). -/
theorem dispOpCode_callOp {i : Instr} {need : BitVec 2} (hneed : payloadNeed i = some need) :
    dispOpCode (callOp i) = 1 ∨ dispOpCode (callOp i) = 2 ∨ dispOpCode (callOp i) = 3 ∨
      dispOpCode (callOp i) = 4 ∨ dispOpCode (callOp i) = 6 := by
  cases i with
  | clearDisplay | returnHome | setCursor | putChar | controlDisplay | putString => simp [callOp, dispOpCode]
  | _ => cases hneed

/-- No operation of the port has the code of `put_string` (30_encoding R100, 43_decoder R208). -/
theorem dispOpCode_ne_putString (op : DispOp) : dispOpCode op ≠ 5 := by
  cases op <;> decide

/-- Settles O46: `rst` offers nothing, and a turn offers what `turn_callsEmitted` says. -/
theorem putStringCallIsNeverOffered : Obligations.PutStringCallIsNeverOffered := by
  intro s t h
  refine ⟨dispOpCode_ne_putString _, fun op a b c hmem => ?_⟩
  rcases step_cases h with ⟨_, rfl⟩ | ⟨_, u, hturn, rfl⟩
  · simp [applyReset, State.reset] at hmem
  rw [← mem_callsEmitted, callsEmitted_endStep] at hmem
  rcases turn_callsEmitted hturn with hnone | ⟨hd, ⟨need, hneed⟩, _, _, _, hone⟩
  · simp [hnone] at hmem
  · rw [hone, List.mem_singleton, PortEvent.disp.injEq] at hmem
    obtain ⟨rfl, _⟩ := hmem
    exact ⟨hd, rfl, dispOpCode_callOp hneed⟩

end Sys2Proof.Machine

namespace Sys2Proof.Machine

/-! ### Runs of several steps (43_decoder section 4) -/

@[simp] theorem shown_diag_bufferEmpty : shown (.diag .bufferEmpty) = some .bufferEmpty := rfl
@[simp] theorem shown_decDone (st : DecStatus) : shown (.decDone st) = none := rfl

theorem runTrace_one {s t : State} (h : step s = .next t) : runTrace 1 s = some (t.emitted, t) := by
  simp [runTrace, h]

/-- Two runs, the second from where the first ends, are one run. -/
theorem runTrace_add {m n : Nat} {s t u : State} {es ds : List PortEvent} (hfirst : runTrace m s = some (es, t))
    (hsecond : runTrace n t = some (ds, u)) : runTrace (m + n) s = some (es ++ ds, u) := by
  induction m generalizing s es with
  | zero =>
    cases hfirst
    simpa using hsecond
  | succ m ih =>
    rw [Nat.succ_add, runTrace]
    rw [runTrace] at hfirst
    cases hstep : step s with
    | next v =>
      rw [hstep, Option.map_eq_some_iff] at hfirst
      obtain ⟨⟨fs, w⟩, hrun, heq⟩ := hfirst
      cases heq
      simp [ih hrun]
    | fault e | refused e => simp [hstep] at hfirst

/-- `n` steps of the decoder from `s` to `t` inside one cycle: they show `calls` and count no frame off. -/
structure CyclePart (n : Nat) (s : State) (calls : List Shown) (t : State) : Prop where
  trace : ∃ es, runTrace n s = some (es, t) ∧ es.filterMap shown = calls
  count_eq : t.completedFrameCount = s.completedFrameCount
  params_eq : t.params = s.params

theorem CyclePart.refl (s : State) : CyclePart 0 s [] s := ⟨⟨[], rfl, rfl⟩, rfl, rfl⟩

theorem CyclePart.trans {m n : Nat} {s t u : State} {cs ds : List Shown} (h : CyclePart m s cs t)
    (h' : CyclePart n t ds u) : CyclePart (m + n) s (cs ++ ds) u := by
  obtain ⟨⟨es, hrun, hcs⟩, hcount, hparams⟩ := h
  obtain ⟨⟨fs, hrun', hds⟩, hcount', hparams'⟩ := h'
  exact ⟨⟨es ++ fs, runTrace_add hrun hrun', by rw [List.filterMap_append, hcs, hds]⟩, hcount'.trans hcount,
    hparams'.trans hparams⟩

theorem CyclePart.of_step {s t : State} {calls : List Shown} (h : step s = .next t)
    (hcalls : t.emitted.filterMap shown = calls) (hcount : t.completedFrameCount = s.completedFrameCount) :
    CyclePart 1 s calls t :=
  ⟨⟨_, runTrace_one h, hcalls⟩, hcount, step_keeps_params h⟩

/-- What stands before the end of a cycle counts into it. -/
theorem CyclePart.cycleShows {m n : Nat} {s t : State} {cs ds : List Shown} {st : DecStatus} {rest : List Byte}
    (h : CyclePart m s cs t) (hend : CycleShows t n ds st rest) : CycleShows s (m + n) (cs ++ ds) st rest := by
  obtain ⟨⟨es, hrun, hcs⟩, hcount, _⟩ := h
  obtain ⟨fs, u, hrun', hds, hrest, hdone, hst, hidle, hcount'⟩ := hend
  refine ⟨es ++ fs, u, runTrace_add hrun hrun', by rw [List.filterMap_append, hcs, hds], hrest,
    List.mem_append_right es hdone, hst, hidle, by rw [hcount', hcount]⟩

/-! ### A `get` that an Empty ring refuses (43_decoder R191, R192, R202) -/

theorem step_of_decoderTurn {s t : State} (hrst : s.pins.rst = false) (hfifo : s.pins.fifo = none)
    (hen : receiveEnabled s = false) (h : takeTurn (decoderTurn s) (beginStep s) = .next t) :
    step s = .next (endStep t) := by
  simp [step, hrst, turn_of_decoder hfifo hen, h]

/-- The three states that get a byte abort alike. -/
theorem takeTurn_aborts {s : State} (hf : s.fill = .empty)
    (hd : s.dstate = .getId ∨ s.dstate = .getSize ∨ s.dstate = .getPayload) :
    takeTurn (decoderTurn s) (beginStep s) = .next (abortOnEmpty (beginStep s)) := by
  rcases hd with hd | hd | hd
  · simpa [decoderTurn, hd, takeTurn, controlStep] using getIdStep_aborts (s := beginStep s) hf
  · simpa [decoderTurn, hd, takeTurn, controlStep] using getSizeStep_aborts (s := beginStep s) hf
  · have hpay := exec_getPayload (s := beginStep s) (decodeHeader_format (headerOf s)) hd
    simpa [decoderTurn, hd, takeTurn, hpay] using getPayloadStep_aborts (s := beginStep s) hf

/-! ### A DECODE run in progress (30_encoding R104) -/

/-- The decoder runs alone for the next `k` steps, with no event pending and `bytes` unread. -/
structure Decoding (k : Nat) (s : State) (bytes : List Byte) : Prop where
  inv : BlockInv s
  evtPend_eq : s.evtPend = false
  alone : decodeRun k s = true
  unread_eq : unread s = bytes

theorem unread_eq_of_fifoSide {s t : State} (h : fifoSide t = fifoSide s) : unread t = unread s := by
  simp only [fifoSide, Prod.mk.injEq] at h
  obtain ⟨hparams, hring, hrd, hwr, hfill⟩ := h
  simp only [unread, unreadCount, hparams, hring, hrd, hwr, hfill]

@[simp] theorem unread_endStep (s : State) : unread (endStep s) = unread s :=
  unread_eq_of_fifoSide (fifoSide_endStep s)

namespace Decoding

variable {k : Nat} {s t : State} {bytes rest : List Byte} {b : Byte}

theorem of_ready (h : ReadyToDecode k s) (hu : unread s = bytes) : Decoding k s bytes := by
  obtain ⟨hinv, _, _, hpend, halone⟩ := h
  exact ⟨hinv, hpend, halone, hu⟩

theorem decodesAlone (h : Decoding (k + 1) s bytes) : DecodesAlone s :=
  ((decodeRun_succ k s).1 h.alone).1

theorem rst_eq (h : Decoding (k + 1) s bytes) : s.pins.rst = false := by
  obtain ⟨hrst, _⟩ := h.decodesAlone
  exact hrst

theorem fifo_eq (h : Decoding (k + 1) s bytes) : s.pins.fifo = none := by
  obtain ⟨_, _, hfifo, _⟩ := h.decodesAlone
  exact hfifo

theorem dispDone_eq (h : Decoding (k + 1) s bytes) (hd : s.dstate = .waitDisp) : s.pins.dispDone = true := by
  obtain ⟨_, _, _, hdisp, _⟩ := h.decodesAlone
  exact hdisp hd

theorem diagDone_eq (h : Decoding (k + 1) s bytes) (hd : s.dstate = .waitDiag) : s.pins.diagDone = true := by
  obtain ⟨_, _, _, _, hdiag⟩ := h.decodesAlone
  exact hdiag hd

theorem fifoInv (h : Decoding k s bytes) : FifoInv s := by
  obtain ⟨hfifo, _⟩ := h.inv
  exact hfifo

theorem not_receiveEnabled (h : Decoding k s bytes) : receiveEnabled s = false := by
  simp [receiveEnabled, h.evtPend_eq]

/-- The run goes on after each of its steps. -/
theorem next (h : Decoding (k + 1) s bytes) (hstep : step s = .next t) : Decoding k t (unread t) := by
  obtain ⟨⟨_, hevt, _⟩, hrun⟩ := (decodeRun_succ k s).1 h.alone
  obtain ⟨_, _, _, _, _, _, _, _, _, hpend⟩ :=
    decoderStepWritesOnlyItsOwn s t h.rst_eq h.fifo_eq h.not_receiveEnabled hstep
  exact ⟨everyStepKeepsTheInvariant s t h.inv hstep, by rw [hpend, hevt, h.evtPend_eq]; rfl, hrun t hstep, rfl⟩

theorem rdIdx_lt (h : Decoding k s bytes) : s.rdIdx < s.params.n := h.fifoInv.countIs.rdIdx_lt

theorem fill_eq_empty (h : Decoding k s []) : s.fill = .empty := h.fifoInv.fill_empty_iff.2 h.unread_eq

theorem fill_ne_empty (h : Decoding k s (b :: rest)) : s.fill ≠ .empty := by
  simp [h.fifoInv.fill_empty_iff, h.unread_eq]

/-- A step that leaves the FIFO alone. -/
theorem keeping (h : Decoding (k + 1) s bytes) (hstep : step s = .next t) (ht : fifoSide t = fifoSide s) :
    Decoding k t bytes := by
  have hu : unread t = bytes := (unread_eq_of_fifoSide ht).trans h.unread_eq
  exact hu ▸ h.next hstep

end Decoding

/-- `s` after a `get` that was accepted (40_fifo R131). -/
def afterGet (s : State) : State :=
  { s with
    rdIdx := nextIdx s.params s.rdIdx
    fill := fillAfterGet (nextIdx s.params s.rdIdx) s.wrIdx
    getErr := false
    getData := Memory.read s.ring s.rdIdx }

theorem ringGet_eq_afterGet {s : State} (hf : s.fill ≠ .empty) (hr : s.rdIdx < s.params.n) :
    ringGet s = .next (afterGet s) :=
  ringGet_accepts s hf hr

namespace Decoding

variable {k : Nat} {s t : State} {bytes rest : List Byte} {b id size : Byte}

/-- What an accepted `get` answers and leaves. -/
theorem afterGet_eq (h : Decoding k s (b :: rest)) :
    Memory.read s.ring s.rdIdx = b ∧ unread (afterGet s) = rest := by
  obtain ⟨u, hget, _, _, hu⟩ := ringGet_removes h.fifoInv h.fill_ne_empty
  cases (ringGet_eq_afterGet h.fill_ne_empty h.rdIdx_lt).symm.trans hget
  obtain ⟨hb, hrest⟩ := List.cons_eq_cons.1 (h.unread_eq.symm.trans hu)
  exact ⟨hb.symm, hrest.symm⟩

/-- A step that gets one byte. -/
theorem getting (h : Decoding (k + 1) s (b :: rest)) (hstep : step s = .next t)
    (ht : fifoSide t = fifoSide (afterGet s)) : Decoding k t rest := by
  have hu : unread t = rest := (unread_eq_of_fifoSide ht).trans h.afterGet_eq.2
  exact hu ▸ h.next hstep

/-! #### IDLE, GET_ID, GET_SIZE -/

theorem leaves_idle (h : Decoding (k + 1) s bytes) (hd : s.dstate = .idle) (hcount : s.completedFrameCount ≠ 0) :
    ∃ t, CyclePart 1 s [] t ∧ Decoding k t bytes ∧ t.dstate = .getId := by
  have hstep := idleStartsOnACountedFrame s h.rst_eq h.fifo_eq h.not_receiveEnabled hd
  exact ⟨_, .of_step hstep (by simp) (by simp), h.keeping hstep (by simp [fifoSide]), by simpa using hcount⟩

theorem fetches_id (h : Decoding (k + 1) s (id :: rest)) (hd : s.dstate = .getId) :
    ∃ t, CyclePart 1 s [] t ∧ Decoding k t rest ∧ t.dstate = .getSize ∧ t.frameId = id := by
  have hstep := (headerIsFetchedByTwoGets s h.rst_eq h.fifo_eq h.not_receiveEnabled h.rdIdx_lt (.inl hd)).1
    h.fill_ne_empty
  exact ⟨_, .of_step hstep (by simp) (by simp), h.getting hstep (by rw [fifoSide_endStep]; rfl), by simp [hd],
    by simp [hd, h.afterGet_eq.1]⟩

theorem fetches_size (h : Decoding (k + 1) s (size :: rest)) (hd : s.dstate = .getSize) :
    ∃ t, CyclePart 1 s [] t ∧ Decoding k t rest ∧ t.dstate = .dispatch ∧ headerOf t = mkHdr s.frameId size := by
  have hstep := (headerIsFetchedByTwoGets s h.rst_eq h.fifo_eq h.not_receiveEnabled h.rdIdx_lt (.inr hd)).1
    h.fill_ne_empty
  exact ⟨_, .of_step hstep (by simp) (by simp), h.getting hstep (by rw [fifoSide_endStep]; rfl), by simp [hd],
    by simp [headerOf, hd, h.afterGet_eq.1]⟩

/-! #### The end of a cycle -/

theorem ends (h : Decoding 1 s bytes) (hd : s.dstate = .done) : CycleShows s 1 [] s.decStatus bytes := by
  obtain ⟨t, hstep, hemitted, hfifo, hst, hidle, hcount⟩ : ∃ t, step s = .next t ∧
      t.emitted = [.decDone s.decStatus] ∧ fifoSide t = fifoSide s ∧ t.decStatus = s.decStatus ∧
      t.dstate = .idle ∧ t.completedFrameCount = s.completedFrameCount - 1 :=
    ⟨_, doneCountsTheFrameOff s h.rst_eq h.fifo_eq h.not_receiveEnabled hd, by simp, by simp [fifoSide], by simp,
      by simp, by simp⟩
  refine ⟨[.decDone s.decStatus], t, ?_, by simp, ?_, by simp, hst, hidle, hcount⟩
  · rw [runTrace_one hstep, hemitted]
  · exact (unread_eq_of_fifoSide hfifo).trans h.unread_eq

theorem offers_report (h : Decoding (k + 1) s bytes) (hd : s.dstate = .report) :
    ∃ t, CyclePart 1 s [.bufferEmpty] t ∧ Decoding k t bytes ∧ t.dstate = .waitDiag := by
  obtain ⟨hoffer, _⟩ := bufferEmptyIsReportedThenEnds s h.rst_eq h.fifo_eq h.not_receiveEnabled
  have hstep := hoffer hd
  exact ⟨_, .of_step hstep (by simp) (by simp), h.keeping hstep (by simp [fifoSide]), by simp⟩

theorem closes_report (h : Decoding (k + 1) s bytes) (hd : s.dstate = .waitDiag) :
    ∃ t, CyclePart 1 s [] t ∧ Decoding k t bytes ∧ t.dstate = .done ∧ t.decStatus = .bufferEmpty := by
  obtain ⟨_, _, hclose⟩ := bufferEmptyIsReportedThenEnds s h.rst_eq h.fifo_eq h.not_receiveEnabled
  have hstep := hclose hd (h.diagDone_eq hd)
  exact ⟨_, .of_step hstep (by simp) (by simp), h.keeping hstep (by simp [fifoSide]), by simp, by simp⟩

/-- A `get` on an Empty ring ends its cycle with one report, in whichever of the three states it comes
(43_decoder R191, R192, R202, R204). -/
theorem runs_out (h : Decoding 4 s []) (hd : s.dstate = .getId ∨ s.dstate = .getSize ∨ s.dstate = .getPayload) :
    CycleShows s 4 [.bufferEmpty] .bufferEmpty [] := by
  have hstep := step_of_decoderTurn h.rst_eq h.fifo_eq h.not_receiveEnabled (takeTurn_aborts h.fill_eq_empty hd)
  have habort : CyclePart 1 s [] (endStep (abortOnEmpty (beginStep s))) :=
    .of_step hstep (by simp [abortOnEmpty]) (by simp [abortOnEmpty])
  have hreport := h.keeping hstep (by simp [fifoSide, abortOnEmpty])
  obtain ⟨t, hoffer, ht, htd⟩ := hreport.offers_report (by simp [abortOnEmpty])
  obtain ⟨u, hclose, hu, hud, hst⟩ := ht.closes_report htd
  exact habort.cycleShows (hoffer.cycleShows (hclose.cycleShows (hst ▸ hu.ends hud)))

end Decoding

end Sys2Proof.Machine

namespace Sys2Proof.Machine

/-! ### A command in progress (43_decoder R193 to R203) -/

/-- A DECODE run whose fetched header is that of the command `i`. -/
structure Commanding (k : Nat) (i : Instr) (s : State) (bytes : List Byte) : Prop extends Decoding k s bytes where
  header_eq : decodeHeader (headerOf s) = i

/-- IDLE, GET_ID and GET_SIZE, with both header bytes there (43_decoder R190 to R192). -/
theorem Decoding.fetches_header {k : Nat} {s : State} {id size : Byte} {rest : List Byte}
    (h : Decoding (k + 3) s (id :: size :: rest)) (hd : s.dstate = .idle) (hcount : s.completedFrameCount ≠ 0) :
    ∃ t, CyclePart 3 s [] t ∧ Commanding k (decodeHeader (mkHdr id size)) t rest ∧ t.dstate = .dispatch := by
  obtain ⟨t, hleave, ht, htd⟩ := h.leaves_idle hd hcount
  obtain ⟨u, hid, hu, hud, rfl⟩ := ht.fetches_id htd
  obtain ⟨v, hsize, hv, hvd, hhdr⟩ := hu.fetches_size hud
  exact ⟨v, hleave.trans (hid.trans hsize), ⟨hv, by rw [hhdr]⟩, hvd⟩

namespace Commanding

variable {k : Nat} {i : Instr} {s t : State} {calls : List Shown} {bytes rest : List Byte}

theorem format_eq (h : Commanding k i s bytes) : i.format = .frameHdr := h.header_eq ▸ decodeHeader_format _

/-- One step of the command: what `exec` gives, between the end of the last pulses and the inputs' part. -/
theorem advances (h : Commanding (k + 1) i s bytes) (hd : s.dstate = .dispatch ∨ inCommand s = true)
    (hexec : exec i (beginStep s) = .next t) (hcalls : t.emitted.filterMap shown = calls) (hu : unread t = rest)
    (hhdr : headerOf t = headerOf s) : CyclePart 1 s calls (endStep t) ∧ Commanding k i (endStep t) rest := by
  have hturn := turn_of_command h.fifo_eq h.not_receiveEnabled hd
  have hstep : step s = .next (endStep t) := by
    rw [step_of_run h.rst_eq hturn, h.header_eq, hexec, andThen_next]
  have hcount := completedFrameCount_eq_of_receiveSide (exec_frameHdr_keeps_receiveSide h.format_eq hexec)
  refine ⟨.of_step hstep (by simpa using hcalls) (by simpa using hcount), ?_, ?_⟩
  · simpa [hu] using h.next hstep
  · rw [← h.header_eq, ← hhdr]
    simp [headerOf]

/-- A step that leaves the FIFO alone. -/
theorem advances_keeping (h : Commanding (k + 1) i s bytes) (hd : s.dstate = .dispatch ∨ inCommand s = true)
    (hexec : exec i (beginStep s) = .next t) (hcalls : t.emitted.filterMap shown = calls)
    (hfifo : fifoSide t = fifoSide (beginStep s)) (hhdr : headerOf t = headerOf s) :
    CyclePart 1 s calls (endStep t) ∧ Commanding k i (endStep t) bytes :=
  h.advances hd hexec hcalls ((unread_eq_of_fifoSide hfifo).trans h.unread_eq) hhdr

/-- A header that DISPATCH is done with ends its cycle there (43_decoder R193, R200, R201). -/
theorem ends_at_dispatch {st : DecStatus} (h : Commanding 2 i s bytes) (hd : s.dstate = .dispatch)
    (hexec : exec i (beginStep s) = .next { beginStep s with payCnt := 0, decStatus := st, dstate := .done }) :
    CycleShows s 2 [] st bytes := by
  obtain ⟨hpart, hnext⟩ := h.advances (.inl hd) hexec rfl h.unread_eq rfl
  have hend := hnext.ends (by simp)
  rw [endStep_decStatus] at hend
  exact hpart.cycleShows hend

end Commanding

/-- The size a known identifier does not have makes its malformed row (30_encoding R92, R95). -/
theorem decodeHeader_of_wrong_size {id size : Byte}
    (h : (id = 1#8 ∧ size ≠ 2#8) ∨ (id = 2#8 ∧ size ≠ 2#8) ∨ (id = 3#8 ∧ size ≠ 4#8) ∨ (id = 4#8 ∧ size ≠ 3#8) ∨
      (id = 5#8 ∧ size.toNat < 2) ∨ (id = 6#8 ∧ size ≠ 5#8)) :
    let i := decodeHeader (mkHdr id size)
    i = .putStringShort size ∨ i = .clearDisplayWrongSize size ∨ i = .returnHomeWrongSize size ∨
      i = .setCursorWrongSize size ∨ i = .putCharWrongSize size ∨ i = .controlDisplayWrongSize size := by
  rw [decodeHeader_eq]
  rcases h with ⟨rfl, hsize⟩ | ⟨rfl, hsize⟩ | ⟨rfl, hsize⟩ | ⟨rfl, hsize⟩ | ⟨rfl, hsize⟩ | ⟨rfl, hsize⟩ <;>
    simp [hsize]

theorem decodeHeader_of_unknown_id {id : Byte} (size : Byte) (h : id = 0 ∨ 7 ≤ id.toNat) :
    decodeHeader (mkHdr id size) = .unknown id size := by
  obtain ⟨h1, h2, h3, h4, h5, h6⟩ := (unknownId_iff id).1 h
  rw [decodeHeader_eq]
  simp only [h1, h2, h3, h4, h5, h6, if_false]

/-- Settles O31: the header alone is fetched, and DISPATCH ends the cycle. -/
theorem skippedFrameConsumesOnlyItsHeader : Obligations.SkippedFrameConsumesOnlyItsHeader := by
  intro s id size rest hready hu
  have hdec := Decoding.of_ready hready hu
  obtain ⟨_, hidle, hcount, _⟩ := hready
  obtain ⟨t, hfetch, ht, hd⟩ := hdec.fetches_header (k := 2) hidle hcount
  obtain ⟨_, _, _, _, _, _, hunknown, hmalformed⟩ :=
    dispatchFollowsItsTable (beginStep t) id size (decodeHeader (mkHdr id size)) hd
  refine ⟨fun hrow => ?_, fun hrow => ?_⟩
  · exact hfetch.cycleShows (ht.ends_at_dispatch hd (hmalformed (decodeHeader_of_wrong_size hrow)))
  · rw [decodeHeader_of_unknown_id size hrow] at ht
    exact hfetch.cycleShows (ht.ends_at_dispatch hd hunknown)

/-! ### The payload of a call (43_decoder R193, R202) -/

/-- `args` are the payload bytes fetched so far, of the `need` bytes before the call. -/
structure Loading (need : BitVec 2) (args : List Byte) (s : State) : Prop where
  dstate_eq : s.dstate = if args.length = need.toNat then .call else .getPayload
  payCnt_eq : s.payCnt.toNat = args.length
  payNeed_eq : s.payNeed = need
  args_eq : [s.arg0, s.arg1, s.arg2].take args.length = args

namespace Loading

variable {need : BitVec 2} {args : List Byte} {s : State}

theorem dstate_eq_call (h : Loading need args s) (hfull : args.length = need.toNat) : s.dstate = .call := by
  rw [h.dstate_eq, if_pos hfull]

theorem dstate_eq_getPayload (h : Loading need args s) (hlt : args.length < need.toNat) : s.dstate = .getPayload := by
  rw [h.dstate_eq, if_neg hlt.ne]

/-- A command's first payload byte goes to `arg0`. -/
theorem of_start (hd : s.dstate = if need = 0 then .call else .getPayload) (hcnt : s.payCnt = 0)
    (hneed : s.payNeed = need) : Loading need [] s := by
  have hzero : need = 0 ↔ 0 = need.toNat := by bv_omega
  exact ⟨hd.trans (if_congr hzero rfl rfl), by simp [hcnt], hneed, rfl⟩

end Loading

/-- The next arg register takes the byte and the others keep theirs. -/
theorem take_args_append {cnt : BitVec 2} {a0 a1 a2 : Byte} {args : List Byte} (b : Byte)
    (hcnt : cnt.toNat = args.length) (hroom : args.length < 3) (hargs : [a0, a1, a2].take args.length = args) :
    [if cnt = 0 then b else a0, if cnt = 1 then b else a1, if cnt = 2 then b else a2].take (args ++ [b]).length =
      args ++ [b] := by
  have hlen : args.length = 0 ∨ args.length = 1 ∨ args.length = 2 := by omega
  rw [List.length_append, List.length_singleton, ← hargs, ← hcnt]
  rcases hlen with hlen | hlen | hlen <;> rw [hlen] at hcnt
  · obtain rfl : cnt = 0 := BitVec.eq_of_toNat_eq hcnt
    simp
  · obtain rfl : cnt = 1 := BitVec.eq_of_toNat_eq hcnt
    simp
  · obtain rfl : cnt = 2 := BitVec.eq_of_toNat_eq hcnt
    simp

namespace Commanding

variable {k : Nat} {i : Instr} {s : State} {bytes rest args : List Byte} {need : BitVec 2} {b : Byte}

/-- One GET_PAYLOAD step (43_decoder R202). -/
theorem loads_byte (h : Commanding (k + 1) i s (b :: rest)) (hload : Loading need args s)
    (hlt : args.length < need.toNat) :
    ∃ t, CyclePart 1 s [] t ∧ Commanding k i t rest ∧ Loading need (args ++ [b]) t ∧ t.remaining = s.remaining := by
  have hd := hload.dstate_eq_getPayload hlt
  obtain ⟨_, hcnt, hneed, hargs⟩ := hload
  have hmore : s.payCnt ≠ 3 := by bv_omega
  obtain ⟨hfirst, hrest⟩ := h.afterGet_eq
  have hexec := (exec_getPayload (s := beginStep s) h.format_eq hd).trans
    (getPayloadStep_accepts (s := beginStep s) h.fill_ne_empty h.rdIdx_lt hmore)
  simp only [beginStep_ring, beginStep_rdIdx, hfirst] at hexec
  obtain ⟨hpart, hnext⟩ := h.advances (.inr (by simp [inCommand, hd])) hexec rfl hrest rfl
  refine ⟨_, hpart, hnext, ⟨?_, ?_, ?_, ?_⟩, by simp⟩
  · have hlast : s.payCnt + 1 = s.payNeed ↔ (args ++ [b]).length = need.toNat := by
      rw [List.length_append, List.length_singleton, hneed]
      bv_omega
    rw [endStep_dstate]
    exact if_congr hlast rfl rfl
  · simp only [endStep_payCnt, beginStep_payCnt, List.length_append, List.length_singleton]
    bv_omega
  · simpa using hneed
  · simp only [endStep_arg0, endStep_arg1, endStep_arg2]
    exact take_args_append b hcnt (by bv_omega) hargs

/-- GET_PAYLOAD, a byte a step (43_decoder R202). -/
theorem loads_bytes (bs : List Byte) (h : Commanding (k + bs.length) i s (bs ++ rest)) (hload : Loading need args s)
    (hlen : args.length + bs.length ≤ need.toNat) :
    ∃ t, CyclePart bs.length s [] t ∧ Commanding k i t rest ∧ Loading need (args ++ bs) t := by
  induction bs generalizing s args with
  | nil => exact ⟨s, .refl s, h, by simpa using hload⟩
  | cons b bs ih =>
    rw [List.length_cons] at hlen
    obtain ⟨t, hbyte, ht, hload', _⟩ := h.loads_byte hload (by omega)
    obtain ⟨u, hbytes, hu, hloaded⟩ := ih ht hload' (by rw [List.length_append, List.length_singleton]; omega)
    rw [List.append_assoc, List.singleton_append] at hloaded
    exact ⟨u, by simpa [Nat.add_comm] using hbyte.trans hbytes, hu, hloaded⟩

end Commanding

/-- What the call of a command shows, by the payload bytes fetched for it (30_encoding R100, 43_decoder R199). -/
def callShown (p : Config.Params) : Instr → List Byte → List Shown
  | .clearDisplay, [] => [.clear]
  | .returnHome, [] => [.home]
  | .setCursor, [a, b] => [.setCursor a b]
  | .putChar, [a] => [.putChar a]
  | .putString _, [a] => [.putChar a]
  | .controlDisplay, [a, b, c] => [.setControl a b (blinkArg p b c)]
  | _, _ => []

theorem offerCall_emitted (op : DispOp) (a0 a1 a2 : Byte) (s : State) :
    (offerCall op a0 a1 a2 s).emitted = s.emitted ++ [PortEvent.disp op a0 a1 a2] := rfl

/-- The CALL step offers the command's call with the payload as its arguments. -/
theorem exec_call_shows {i : Instr} {need : BitVec 2} {args : List Byte} {s : State} (hneed : payloadNeed i = some need)
    (hd : s.dstate = .call) (hargs : [s.arg0, s.arg1, s.arg2].take need.toNat = args) (hnone : s.emitted = []) :
    ∃ a2, exec i s = .next (offerCall (callOp i) s.arg0 s.arg1 a2 s) ∧
      (offerCall (callOp i) s.arg0 s.arg1 a2 s).emitted.filterMap shown = callShown s.params i args := by
  subst hargs
  simp only [offerCall_emitted, hnone, List.nil_append]
  cases i with
  | clearDisplay | returnHome | setCursor | putChar | controlDisplay | putString =>
    cases hneed
    exact ⟨_, commandStep_call hd, rfl⟩
  | _ => cases hneed

/-- A command of fixed size, with `need` payload bytes: one that makes a call and is no PutString (43_decoder R193). -/
structure FixedSize (i : Instr) (need : BitVec 2) : Prop where
  need_eq : payloadNeed i = some need
  ne_putString : ∀ size, i ≠ .putString size

namespace FixedSize

variable {i : Instr} {need : BitVec 2} {s : State}

theorem exec_dispatch (h : FixedSize i need) (hd : s.dstate = .dispatch) : exec i s = .next (dispatchFixed need s) := by
  obtain ⟨hneed, hfixed⟩ := h
  cases i with
  | clearDisplay | returnHome | setCursor | putChar | controlDisplay => cases hneed; exact commandStep_of_dispatch hd
  | putString size => exact absurd rfl (hfixed size)
  | _ => cases hneed

theorem exec_waitDisp (h : FixedSize i need) (hd : s.dstate = .waitDisp) : exec i s = .next (waitDispOnce s) := by
  obtain ⟨hneed, hfixed⟩ := h
  cases i with
  | clearDisplay | returnHome | setCursor | putChar | controlDisplay => exact commandStep_of_waitDisp hd
  | putString size => exact absurd rfl (hfixed size)
  | _ => cases hneed

end FixedSize

namespace Commanding

variable {k : Nat} {i : Instr} {s : State} {bytes rest args : List Byte} {need : BitVec 2}

/-- DISPATCH of a command of fixed size (43_decoder R193). -/
theorem dispatches (h : Commanding (k + 1) i s bytes) (hd : s.dstate = .dispatch) (hi : FixedSize i need) :
    ∃ t, CyclePart 1 s [] t ∧ Commanding k i t bytes ∧ Loading need [] t := by
  obtain ⟨hpart, hnext⟩ := h.advances_keeping (.inl hd) (hi.exec_dispatch (s := beginStep s) hd) rfl rfl rfl
  exact ⟨_, hpart, hnext, .of_start (endStep_dstate _) (endStep_payCnt _) (endStep_payNeed _)⟩

/-- CALL, the payload of the call fetched (43_decoder R203). -/
theorem calls (h : Commanding (k + 1) i s bytes) (hload : Loading need args s) (hneed : payloadNeed i = some need)
    (hfull : args.length = need.toNat) :
    ∃ t, CyclePart 1 s (callShown s.params i args) t ∧ Commanding k i t bytes ∧ t.dstate = .waitDisp ∧
      t.payNeed = s.payNeed ∧ t.remaining = s.remaining := by
  have hd := hload.dstate_eq_call hfull
  obtain ⟨a2, hexec, hshown⟩ := exec_call_shows (s := beginStep s) hneed hd (hfull ▸ hload.args_eq) rfl
  obtain ⟨hpart, hnext⟩ := h.advances_keeping (.inr (by simp [inCommand, hd])) hexec hshown (fifoSide_offerCall ..)
    (by simp [headerOf, offerCall])
  exact ⟨_, hpart, hnext, by simp [offerCall], by simp [offerCall], by simp [offerCall]⟩

/-- WAIT_DISP of a command of fixed size, the call completed, to the end of the cycle (43_decoder R203). -/
theorem completes (h : Commanding 2 i s bytes) (hd : s.dstate = .waitDisp) (hi : FixedSize i need) :
    CycleShows s 2 [] .ok bytes := by
  have hexec := hi.exec_waitDisp (s := beginStep s) hd
  rw [waitDispOnce_ends (s := beginStep s) (h.dispDone_eq hd)] at hexec
  have hcmd : inCommand s = true := by simp [inCommand, hd]
  obtain ⟨hpart, hnext⟩ :=
    h.advances_keeping (calls := []) (.inr hcmd) hexec (by simp) (by simp) (by simp [headerOf])
  have hend := hnext.ends (by simp)
  rw [endStep_decStatus] at hend
  exact hpart.cycleShows hend

end Commanding

end Sys2Proof.Machine

namespace Sys2Proof.Machine

/-! ### Whole cycles of the commands of fixed size (43_decoder R194 to R197, R199, R207) -/

/-- IDLE to DISPATCH of a command of fixed size. -/
theorem fixedCommand_dispatches {k : Nat} {s : State} {i : Instr} {need : BitVec 2} {id size : Byte} {bytes : List Byte}
    (hready : ReadyToDecode (k + 4) s) (hu : unread s = id :: size :: bytes) (hhdr : decodeHeader (mkHdr id size) = i)
    (hi : FixedSize i need) : ∃ t, CyclePart 4 s [] t ∧ Commanding k i t bytes ∧ Loading need [] t := by
  have hdec := Decoding.of_ready hready hu
  obtain ⟨_, hidle, hcount, _⟩ := hready
  obtain ⟨t, hfetch, ht, hd⟩ := hdec.fetches_header (k := k + 1) hidle hcount
  rw [hhdr] at ht
  obtain ⟨u, hdispatch, hu, hload⟩ := ht.dispatches hd hi
  exact ⟨u, hfetch.trans hdispatch, hu, hload⟩

/-- A frame of fixed size whose bytes are all there. -/
theorem fixedCommand_cycle {s : State} (i : Instr) {need : BitVec 2} {id size : Byte} (args : List Byte)
    {rest : List Byte} (hready : ReadyToDecode (3 + args.length + 4) s) (hu : unread s = id :: size :: (args ++ rest))
    (hhdr : decodeHeader (mkHdr id size) = i) (hi : FixedSize i need) (hfull : args.length = need.toNat) :
    CycleShows s (3 + args.length + 4) (callShown s.params i args) .ok rest := by
  obtain ⟨t, hstart, ht, hload⟩ := fixedCommand_dispatches hready hu hhdr hi
  obtain ⟨u, hbytes, hu, hloaded⟩ := ht.loads_bytes args hload (by simp [hfull])
  obtain ⟨v, hcall, hv, hd, _⟩ := hu.calls hloaded hi.need_eq hfull
  have hcycle := hstart.cycleShows (hbytes.cycleShows (hcall.cycleShows (hv.completes hd hi)))
  rw [hbytes.params_eq, hstart.params_eq, List.append_nil] at hcycle
  rw [show 3 + args.length + 4 = 4 + (args.length + (1 + 2)) by omega]
  exact hcycle

/-- A frame of fixed size whose payload runs out: no call is made (43_decoder R202). -/
theorem fixedCommand_truncated {s : State} (i : Instr) {need : BitVec 2} {id size : Byte} (args : List Byte)
    (hready : ReadyToDecode (4 + args.length + 4) s) (hu : unread s = id :: size :: args)
    (hhdr : decodeHeader (mkHdr id size) = i) (hi : FixedSize i need) (hshort : args.length < need.toNat) :
    CycleShows s (4 + args.length + 4) [.bufferEmpty] .bufferEmpty [] := by
  rw [← List.append_nil args] at hu
  obtain ⟨t, hstart, ht, hload⟩ := fixedCommand_dispatches hready hu hhdr hi
  obtain ⟨u, hbytes, hu, hloaded⟩ := ht.loads_bytes args hload (by simpa using hshort.le)
  have hend := hu.runs_out (.inr (.inr (hloaded.dstate_eq_getPayload hshort)))
  rw [Nat.add_assoc]
  exact hstart.cycleShows (hbytes.cycleShows hend)

/-- Settles O29: the five commands of fixed size, each with its payload. -/
theorem fixedCommandCycleShowsItsCall : Obligations.FixedCommandCycleShowsItsCall := fun _ a b c _ =>
  ⟨fun hready hu => fixedCommand_cycle .clearDisplay [] hready hu (by decide) ⟨rfl, nofun⟩ rfl,
    fun hready hu => fixedCommand_cycle .returnHome [] hready hu (by decide) ⟨rfl, nofun⟩ rfl,
    fun hready hu => fixedCommand_cycle .setCursor [a, b] hready hu (by decide) ⟨rfl, nofun⟩ rfl,
    fun hready hu => fixedCommand_cycle .putChar [a] hready hu (by decide) ⟨rfl, nofun⟩ rfl,
    fun hready hu => fixedCommand_cycle .controlDisplay [a, b, c] hready hu (by decide) ⟨rfl, nofun⟩ rfl⟩

/-- No byte of a header there: GET_ID runs out. -/
theorem emptyHeader_truncated {s : State} (hready : ReadyToDecode 5 s) (hu : unread s = []) :
    CycleShows s 5 [.bufferEmpty] .bufferEmpty [] := by
  have hdec := Decoding.of_ready hready hu
  obtain ⟨_, hidle, hcount, _⟩ := hready
  obtain ⟨t, hleave, ht, hd⟩ := hdec.leaves_idle hidle hcount
  exact hleave.cycleShows (ht.runs_out (.inl hd))

/-- One byte of a header there: it is consumed, and GET_SIZE runs out (43_decoder R192). -/
theorem halfHeader_truncated {s : State} {id : Byte} (hready : ReadyToDecode 6 s) (hu : unread s = [id]) :
    CycleShows s 6 [.bufferEmpty] .bufferEmpty [] := by
  have hdec := Decoding.of_ready hready hu
  obtain ⟨_, hidle, hcount, _⟩ := hready
  obtain ⟨t, hleave, ht, htd⟩ := hdec.leaves_idle hidle hcount
  obtain ⟨u, hid, hu, hud, _⟩ := ht.fetches_id htd
  exact hleave.cycleShows (hid.cycleShows (hu.runs_out (.inr (.inl hud))))

/-- Settles O33: the header or the payload runs out, by the number of bytes there. -/
theorem truncatedFrameReportsBufferEmpty : Obligations.TruncatedFrameReportsBufferEmpty := by
  intro s id a b
  refine ⟨emptyHeader_truncated, halfHeader_truncated, fun hready hu => ?_, fun hready hu => ?_, fun hready hu => ?_⟩
  · rcases hu with hu | hu | hu
    · exact fixedCommand_truncated .setCursor [] hready hu (by decide) ⟨rfl, nofun⟩ (by decide)
    · exact fixedCommand_truncated .putChar [] hready hu (by decide) ⟨rfl, nofun⟩ (by decide)
    · exact fixedCommand_truncated .controlDisplay [] hready hu (by decide) ⟨rfl, nofun⟩ (by decide)
  · rcases hu with hu | hu
    · exact fixedCommand_truncated .setCursor [a] hready hu (by decide) ⟨rfl, nofun⟩ (by simp)
    · exact fixedCommand_truncated .controlDisplay [a] hready hu (by decide) ⟨rfl, nofun⟩ (by simp)
  · exact fixedCommand_truncated .controlDisplay [a, b] hready hu (by decide) ⟨rfl, nofun⟩ (by simp)

/-! ### Whole cycles of PutString (43_decoder R198, R207) -/

theorem decodeHeader_putString {size : Byte} (hsize : 2 ≤ size.toNat) :
    decodeHeader (mkHdr 5 size) = .putString size := by
  rw [decodeHeader_eq]
  simp [hsize.not_gt]

/-- `r` characters are left to fetch: the next one is one payload byte, and after the last one the cycle is done. -/
structure CharactersLeft (r : Nat) (s : State) : Prop where
  ended : r = 0 → s.dstate = .done ∧ s.decStatus = .ok
  awaited : 0 < r → Loading 1 [] s ∧ s.remaining.toNat = r

namespace Commanding

variable {k r : Nat} {i : Instr} {s : State} {size c : Byte} {bytes rest chars : List Byte}

/-- DISPATCH of PutString counts its characters; with none the cycle is done. -/
theorem dispatches_string (h : Commanding (k + 1) (.putString size) s bytes) (hd : s.dstate = .dispatch)
    (hlen : r + 2 = size.toNat) :
    ∃ t, CyclePart 1 s [] t ∧ Commanding k (.putString size) t bytes ∧ CharactersLeft r t := by
  have hexec : exec (.putString size) (beginStep s) = .next (dispatchString size (beginStep s)) :=
    commandStep_of_dispatch hd
  rw [dispatchString_eq] at hexec
  obtain ⟨hpart, hnext⟩ := h.advances_keeping (.inl hd) hexec rfl rfl rfl
  refine ⟨_, hpart, hnext, fun hnone => ?_, fun hsome => ⟨.of_start ?_ ?_ ?_, ?_⟩⟩
  · have htwo : size = 2 := by bv_omega
    simp [htwo]
  · have hmore : size ≠ 2 := by bv_omega
    rw [endStep_dstate]
    exact if_neg hmore
  · simp
  · simp
  · simp only [endStep_remaining]
    bv_omega

/-- WAIT_DISP of PutString with the call completed: one character is counted off. -/
theorem counts_character (h : Commanding (k + 1) (.putString size) s bytes) (hd : s.dstate = .waitDisp)
    (hneed : s.payNeed = 1) (hleft : s.remaining.toNat = r + 1) :
    ∃ t, CyclePart 1 s [] t ∧ Commanding k (.putString size) t bytes ∧ CharactersLeft r t := by
  have hdone := h.dispDone_eq hd
  have hsome : s.remaining ≠ 0 := by bv_omega
  obtain ⟨_, hmore, hlast⟩ := waitDispCountsACharacter (beginStep s) size hd hsome
  have hcmd : s.dstate = .dispatch ∨ inCommand s = true := .inr (by simp [inCommand, hd])
  rcases Nat.eq_zero_or_pos r with rfl | hr
  · have hone : s.remaining = 1 := by bv_omega
    obtain ⟨hpart, hnext⟩ := h.advances_keeping (calls := []) hcmd (hlast hdone hone) rfl rfl rfl
    exact ⟨_, hpart, hnext, fun _ => by simp, nofun⟩
  · have hnotone : s.remaining ≠ 1 := by bv_omega
    obtain ⟨hpart, hnext⟩ := h.advances_keeping (calls := []) hcmd (hmore hdone hnotone) rfl rfl rfl
    refine ⟨_, hpart, hnext, fun hnone => absurd hnone hr.ne', fun _ => ⟨.of_start (by simp) (by simp) ?_, ?_⟩⟩
    · simpa using hneed
    · simp only [endStep_remaining, beginStep_remaining]
      bv_omega

/-- One character: GET_PAYLOAD, CALL, WAIT_DISP. -/
theorem shows_character (h : Commanding (k + 3) (.putString size) s (c :: rest)) (hleft : CharactersLeft (r + 1) s) :
    ∃ t, CyclePart 3 s [.putChar c] t ∧ Commanding k (.putString size) t rest ∧ CharactersLeft r t := by
  obtain ⟨hload, hcount⟩ := hleft.awaited r.succ_pos
  obtain ⟨t, hbyte, ht, hloaded, hkeep⟩ := h.loads_byte hload (by simp)
  obtain ⟨u, hcall, hu, hd, hneed, hkeep'⟩ := ht.calls hloaded rfl rfl
  have hcounted : u.remaining.toNat = r + 1 := by rw [hkeep', hkeep, hcount]
  obtain ⟨v, hwait, hv, hleft'⟩ := hu.counts_character hd (hneed.trans hloaded.payNeed_eq) hcounted
  exact ⟨v, hbyte.trans (hcall.trans hwait), hv, hleft'⟩

/-- Any number of characters, in order. -/
theorem shows_characters (chars : List Byte) (h : Commanding (k + 3 * chars.length) (.putString size) s (chars ++ rest))
    (hleft : CharactersLeft (r + chars.length) s) :
    ∃ t, CyclePart (3 * chars.length) s (chars.map .putChar) t ∧ Commanding k (.putString size) t rest ∧
      CharactersLeft r t := by
  induction chars generalizing s with
  | nil => exact ⟨s, .refl s, h, hleft⟩
  | cons c chars ih =>
    obtain ⟨t, hone, ht, hleft'⟩ := h.shows_character hleft
    obtain ⟨u, hmany, hu, hleft''⟩ := ih ht hleft'
    have hsteps : 3 * (c :: chars).length = 3 + 3 * chars.length := by rw [List.length_cons]; omega
    exact ⟨u, hsteps ▸ hone.trans hmany, hu, hleft''⟩

end Commanding

/-- IDLE to the end of a PutString's first `chars`, with `r` characters left. -/
theorem putString_shows {k r : Nat} {s : State} {size : Byte} (chars : List Byte) {rest : List Byte}
    (hready : ReadyToDecode (k + 3 * chars.length + 4) s) (hu : unread s = 5 :: size :: (chars ++ rest))
    (hlen : r + chars.length + 2 = size.toNat) :
    ∃ t, CyclePart (4 + 3 * chars.length) s (chars.map .putChar) t ∧ Decoding k t rest ∧ CharactersLeft r t := by
  have hdec := Decoding.of_ready hready hu
  obtain ⟨_, hidle, hcount, _⟩ := hready
  obtain ⟨t, hfetch, ht, hd⟩ := hdec.fetches_header (k := k + 3 * chars.length + 1) hidle hcount
  rw [decodeHeader_putString (by omega)] at ht
  obtain ⟨u, hdispatch, hu, hleft⟩ := ht.dispatches_string hd hlen
  obtain ⟨v, hchars, hv, hleft'⟩ := hu.shows_characters chars hleft
  exact ⟨v, (hfetch.trans hdispatch).trans hchars, hv.toDecoding, hleft'⟩

/-- Settles O30: after the last character no more are left, and the cycle ends. -/
theorem putStringCycleShowsEveryCharacter : Obligations.PutStringCycleShowsEveryCharacter := by
  intro s size chars rest hlen hready hu
  have hsteps : 5 + 3 * chars.length = 1 + 3 * chars.length + 4 := by omega
  rw [hsteps] at hready
  obtain ⟨t, hpart, ht, hleft⟩ := putString_shows (r := 0) chars hready hu (by omega)
  obtain ⟨hd, hst⟩ := hleft.ended rfl
  have hcycle := hpart.cycleShows (hst ▸ ht.ends hd)
  rw [List.append_nil] at hcycle
  rw [show 5 + 3 * chars.length = 4 + 3 * chars.length + 1 by omega]
  exact hcycle

/-- Settles O32: with characters left, the next GET_PAYLOAD finds the ring Empty. -/
theorem truncatedPutStringReportsBufferEmpty : Obligations.TruncatedPutStringReportsBufferEmpty := by
  intro s size chars hshort hready hu
  have hsteps : 8 + 3 * chars.length = 4 + 3 * chars.length + 4 := by omega
  rw [hsteps] at hready ⊢
  rw [← List.append_nil chars] at hu
  obtain ⟨r, hr, hlen⟩ : ∃ r, 0 < r ∧ r + chars.length + 2 = size.toNat :=
    ⟨size.toNat - (chars.length + 2), by omega, by omega⟩
  obtain ⟨t, hpart, ht, hleft⟩ := putString_shows chars hready hu hlen
  obtain ⟨hload, _⟩ := hleft.awaited hr
  exact hpart.cycleShows (ht.runs_out (.inr (.inr (hload.dstate_eq_getPayload (by simp)))))

end Sys2Proof.Machine

namespace Sys2Proof.Machine

/-! ### Every turn answers a next state (60_exceptions R244) -/

theorem ringGet_answers {s : State} (hs : FifoInv s) : ∃ t, ringGet s = .next t := by
  obtain ⟨t, hget, _⟩ := ringGet_queue hs
  exact ⟨t, hget⟩

/-- Of the receive steps only DataWrite's writes a ring slot, and the FIFO's invariant has one for it. -/
theorem exec_snapshotKey_answers {i : Instr} {s : State} (hfmt : i.format = .snapshotKey) (hs : FifoInv s) :
    ∃ t, exec i s = .next t := by
  cases i with
  | addressWrite | addressRead | idle => exact ⟨_, rfl⟩
  | dataWrite bf nak => exact exec_dataWrite_answers bf nak hs
  | dataRead c bf nak =>
    cases hhold : s.rxHold with
    | none => exact ⟨_, exec_dataRead_fresh c bf nak hhold⟩
    | some key => exact ⟨_, exec_dataRead_waiting c bf nak hhold⟩
  | _ => cases hfmt

/-- A payload byte has an arg register, since fewer than `pay_need` are in (43_decoder R202). -/
theorem getPayloadStep_answers {s : State} (hs : FifoInv s) (hcnt : s.payCnt.toNat < s.payNeed.toNat) :
    ∃ t, getPayloadStep s = .next t := by
  by_cases hf : s.fill = .empty
  · exact ⟨_, getPayloadStep_aborts hf⟩
  · have hreg : s.payCnt ≠ 3 := by bv_omega
    exact ⟨_, getPayloadStep_accepts hf hs.countIs.rdIdx_lt hreg⟩

/-- Of the steps of a command only GET_PAYLOAD and CALL can stop. -/
theorem commandStep_answers {b w : State → State} {c : State → Result} {s : State}
    (hpay : s.dstate = .getPayload → ∃ t, getPayloadStep s = .next t)
    (hcall : s.dstate = .call → ∃ t, c s = .next t) : ∃ t, commandStep b c w s = .next t := by
  unfold commandStep
  cases hd : s.dstate
  case getPayload => exact hpay hd
  case call => exact hcall hd
  all_goals exact ⟨_, rfl⟩

/-- A CALL step answers under a header that makes a call (30_encoding R100; log entry 14). -/
theorem exec_frameHdr_answers {i : Instr} {s : State} (hfmt : i.format = .frameHdr)
    (hpay : s.dstate = .getPayload → ∃ t, getPayloadStep s = .next t)
    (hcall : s.dstate = .call → ∃ need, payloadNeed i = some need) : ∃ t, exec i s = .next t := by
  cases i with
  | clearDisplay | returnHome | setCursor | putChar | controlDisplay | putString =>
    exact commandStep_answers hpay fun _ => ⟨_, rfl⟩
  | putStringShort | clearDisplayWrongSize | returnHomeWrongSize | setCursorWrongSize | putCharWrongSize
  | controlDisplayWrongSize | unknown =>
    refine commandStep_answers hpay fun hd => ?_
    obtain ⟨need, hneed⟩ := hcall hd
    cases hneed
  | addressWrite | dataWrite | addressRead | dataRead | idle | put | get | state => cases hfmt

theorem controlStep_answers (c : Control) {s : State} (hs : FifoInv s) : ∃ t, controlStep c s = .next t := by
  cases c with
  | idle | report | waitDiag | done => exact ⟨_, rfl⟩
  | getId =>
    obtain ⟨u, hget⟩ := ringGet_answers hs
    exact ⟨_, by rw [controlStep, getIdStep, hget, andThen_next]⟩
  | getSize =>
    obtain ⟨u, hget⟩ := ringGet_answers hs
    exact ⟨_, by rw [controlStep, getSizeStep, hget, andThen_next]⟩

/-- The decoder's invariant keeps its two stops out: `pay_cnt` is below `pay_need` in GET_PAYLOAD, and the header
makes calls in CALL. -/
theorem decoderTurn_answers {s : State} (hfifo : FifoInv s) (hdec : DecoderInv s) :
    ∃ t, takeTurn (decoderTurn s) (beginStep s) = .next t := by
  rcases decoderTurn_run_or_control s with ⟨_, hrun⟩ | ⟨c, hrun⟩ <;> rw [hrun]
  · refine exec_frameHdr_answers (decodeHeader_format _) (fun hd => ?_) fun hd => ?_
    · obtain ⟨_, _, _, _, _, _, hcnt, _⟩ := hdec
      exact getPayloadStep_answers (s := beginStep s) hfifo (hcnt hd)
    · have hstate : s.dstate = .call := hd
      have hcmd : inCommand s = true := by simp [inCommand, hstate]
      obtain ⟨hneed, _⟩ := hdec.callsAhead hcmd
      exact ⟨_, hneed⟩
  · exact controlStep_answers c (s := beginStep s) hfifo

theorem turn_answers {s : State} (hs : BlockInv s) : ∃ t, takeTurn (turn s) (beginStep s) = .next t := by
  obtain ⟨hfifo, _, hdec⟩ := hs
  rcases turn_cases s with ⟨p, _, hturn⟩ | ⟨_, _, hturn⟩ | ⟨_, _, hturn⟩ <;> rw [hturn]
  · obtain ⟨t, hexec, _⟩ := exec_decodePort_queue (s := beginStep s) p hfifo
    exact ⟨t, hexec⟩
  · obtain ⟨_, hfmt, _⟩ := decodeKey_sound (eventKey s)
    exact exec_snapshotKey_answers (s := beginStep s) hfmt hfifo
  · exact decoderTurn_answers hfifo hdec

theorem step_of_turn {s t : State} (hrst : s.pins.rst = false) (h : takeTurn (turn s) (beginStep s) = .next t) :
    step s = .next (endStep t) := by
  simp [step, hrst, h]

/-- Settles O49: `rst` always answers, and so does whichever turn it is. -/
theorem noStepEverStops : Obligations.NoStepEverStops := by
  intro s hs
  cases hrst : s.pins.rst with
  | true => exact ⟨_, step_of_rst hrst⟩
  | false =>
    obtain ⟨t, hturn⟩ := turn_answers hs
    exact ⟨_, step_of_turn hrst hturn⟩

/-! ### No turn writes the inputs (10_state R33) -/

theorem turn_keeps_pins {s u : State} (h : takeTurn (turn s) (beginStep s) = .next u) : u.pins = s.pins := by
  rcases turn_cases s with ⟨p, _, hturn⟩ | ⟨_, _, hturn⟩ | ⟨_, _, hturn⟩ <;> rw [hturn] at h
  · obtain ⟨_, hfmt, _⟩ := decodePort_sound p
    rw [exec_fifoPort_frame hfmt h]
    rfl
  · obtain ⟨_, hfmt, _⟩ := decodeKey_sound (eventKey s)
    rw [exec_snapshotKey_frame hfmt h]
    rfl
  · obtain ⟨_, hside, _⟩ := decoderTurn_receiveSide h
    simpa using congrArg State.pins hside

/-- Settles O43: the end of the step reads the `evt_i` of its beginning, and sets after the turn has cleared. -/
theorem eventPulseWinsOverTheClear : Obligations.EventPulseWinsOverTheClear := by
  intro s t hrst hevt h
  obtain ⟨hreset, _⟩ | ⟨_, u, hturn, rfl⟩ := step_cases h
  · simp [hrst] at hreset
  simp [evtPendAfter, turn_keeps_pins hturn, hevt]

/-! ### A done pulse (43_decoder R203, R204; 60_exceptions R258) -/

/-- WAIT_DISP with `disp_done_i` high closes the call, whatever the command goes on with. -/
theorem exec_waitDisp_closes {i : Instr} {s t : State} (hfmt : i.format = .frameHdr) (hd : s.dstate = .waitDisp)
    (hdone : s.pins.dispDone = true) (h : exec i s = .next t) : t.dispValid = false ∧ t.rxMask = false := by
  rcases exec_waitDisp_cases hfmt hd h with rfl | ⟨_, _, rfl⟩
  · rw [waitDispOnce_ends hdone]
    exact ⟨rfl, rfl⟩
  · obtain ⟨hlow, _⟩ | ⟨_, _, heq⟩ | ⟨_, _, heq⟩ := waitDispString_cases s
    · simp [hdone] at hlow
    all_goals rw [heq]; exact ⟨rfl, rfl⟩

/-- WAIT_DIAG with `diag_done_i` high closes the report. -/
theorem waitDiagStep_closes {s : State} (hdone : s.pins.diagDone = true) :
    (waitDiagStep s).diagValid = false ∧ (waitDiagStep s).rxMask = false := by
  obtain ⟨hlow, _⟩ | ⟨_, heq⟩ := waitDiagStep_cases s
  · simp [hdone] at hlow
  · rw [heq]
    exact ⟨rfl, rfl⟩

/-- Settles O37: the duties allow a pulse for an offer only, the invariant puts the offer in its waiting state, and
the mask that stands there gives the decoder the turn. -/
theorem donePulseCompletesWhatIsOffered : Obligations.DonePulseCompletesWhatIsOffered := by
  intro s t ⟨_, _, hdec⟩ ⟨_, _, hcall, hreport, hreset, hfifo⟩ h
  obtain ⟨hmask, hdisp, hdiag, _⟩ := hdec
  obtain ⟨hrst, _⟩ | ⟨_, u, hturn, rfl⟩ := step_cases h
  · obtain ⟨_, hnodisp, hnodiag⟩ := hreset hrst
    simp [hnodisp, hnodiag]
  constructor
  · intro hdone
    have hd : s.dstate = .waitDisp := hdisp.1 (hcall hdone)
    rw [turn_of_rxMask hfifo (hmask.2 (.inl hd)), decoderTurn, hd] at hturn
    exact ⟨hd, by simpa using exec_waitDisp_closes (s := beginStep s) (decodeHeader_format _) hd hdone hturn⟩
  · intro hdone
    have hd : s.dstate = .waitDiag := hdiag.1 (hreport hdone)
    rw [turn_of_rxMask hfifo (hmask.2 (.inr hd)), decoderTurn, hd] at hturn
    cases hturn
    exact ⟨hd, by simpa using waitDiagStep_closes (s := beginStep s) hdone⟩

/-! ### A deferred event (60_exceptions R246) -/

theorem runTrace_succ_of_step {s t : State} (k : Nat) (h : step s = .next t) :
    runTrace (k + 1) s = (runTrace k t).map fun r => (t.emitted ++ r.1, r.2) := by
  rw [runTrace, h]

theorem runTrace_succ_cases {k : Nat} {s t : State} {es : List PortEvent} (h : runTrace (k + 1) s = some (es, t)) :
    ∃ u ds, step s = .next u ∧ runTrace k u = some (ds, t) := by
  cases hstep : step s with
  | next u =>
    rw [runTrace_succ_of_step k hstep, Option.map_eq_some_iff] at h
    obtain ⟨⟨ds, v⟩, hrun, heq⟩ := h
    cases heq
    exact ⟨u, ds, rfl, hrun⟩
  | fault e | refused e => simp [runTrace, hstep] at h

/-- Each of the next `k` steps starts with the mask set and `rst` low. -/
def MaskedFor (k : Nat) (s : State) : Prop :=
  ∀ j < k, ∀ ds u, runTrace j s = some (ds, u) → u.rxMask = true ∧ u.pins.rst = false

theorem MaskedFor.now {k : Nat} {s : State} (h : MaskedFor (k + 1) s) : s.rxMask = true ∧ s.pins.rst = false :=
  h 0 k.succ_pos [] s rfl

theorem MaskedFor.next {k : Nat} {s t : State} (h : MaskedFor (k + 1) s) (hstep : step s = .next t) :
    MaskedFor k t := by
  intro j hj ds u hrun
  exact h (j + 1) (Nat.succ_lt_succ hj) (t.emitted ++ ds) u (by rw [runTrace_succ_of_step j hstep, hrun]; rfl)

/-- The event that is pending and not begun in `s` is so in `t`, with the same key and the same byte. -/
structure EventDeferred (s t : State) : Prop where
  evtPend_eq : t.evtPend = true
  rxHold_eq : t.rxHold = none
  addrConsumed_eq : t.addrConsumed = s.addrConsumed
  snap_eq : t.pins.snap = s.pins.snap
  rxData_eq : t.pins.rxData = s.pins.rxData

theorem EventDeferred.refl {s : State} (hpend : s.evtPend = true) (hhold : s.rxHold = none) : EventDeferred s s :=
  ⟨hpend, hhold, rfl, rfl, rfl⟩

theorem EventDeferred.trans {s t u : State} (h : EventDeferred s t) (h' : EventDeferred t u) : EventDeferred s u :=
  ⟨h'.evtPend_eq, h'.rxHold_eq, h'.addrConsumed_eq.trans h.addrConsumed_eq, h'.snap_eq.trans h.snap_eq,
    h'.rxData_eq.trans h.rxData_eq⟩

theorem EventDeferred.eventKey_eq {s t : State} (h : EventDeferred s t) :
    eventKey t = mkKey s.addrConsumed s.pins.snap := by
  simp [eventKey, h.rxHold_eq, h.addrConsumed_eq, h.snap_eq]

/-- A masked step is the decoder's, so the block holds its part of the event; the environment holds the snapshot and
the byte (10_state R34). -/
theorem eventDeferred_of_masked_step {s t : State} (hrst : s.pins.rst = false) (hfifo : s.pins.fifo = none)
    (hmask : s.rxMask = true) (hpend : s.evtPend = true) (hhold : s.rxHold = none) (hheld : InputsHeld s t)
    (h : step s = .next t) : EventDeferred s t := by
  have hen : receiveEnabled s = false := by simp [receiveEnabled, hmask]
  obtain ⟨_, _, _, _, _, hcons, _, hhold', _, hpend'⟩ := decoderStepWritesOnlyItsOwn s t hrst hfifo hen h
  have hstill : t.evtPend = true := by simp [hpend', hpend]
  obtain ⟨hsnap, hdata⟩ := hheld hstill
  exact ⟨hstill, hhold'.trans hhold, hcons, hsnap, hdata⟩

/-- Any number of masked steps, by induction on it. -/
theorem eventDeferred_of_masked_run {k : Nat} {s t : State} {es : List PortEvent} (hpend : s.evtPend = true)
    (hhold : s.rxHold = none) (hconf : conformingRun (k + 1) s = true) (hrun : runTrace k s = some (es, t))
    (hmasked : MaskedFor k s) : EventDeferred s t ∧ DutiesKept t := by
  induction k generalizing s es with
  | zero =>
    cases hrun
    obtain ⟨hduties, _⟩ := (conformingRun_succ 0 _).1 hconf
    exact ⟨.refl hpend hhold, hduties⟩
  | succ k ih =>
    obtain ⟨u, ds, hstep, hrest⟩ := runTrace_succ_cases hrun
    obtain ⟨hmask, hrst⟩ := hmasked.now
    obtain ⟨⟨_, _, _, _, _, hfifo⟩, hnext⟩ := (conformingRun_succ (k + 1) s).1 hconf
    obtain ⟨hheld, hconf'⟩ := hnext u hstep
    have hone := eventDeferred_of_masked_step hrst hfifo hmask hpend hhold hheld hstep
    obtain ⟨hmore, hduties⟩ := ih hone.evtPend_eq hone.rxHold_eq hconf' hrest (hmasked.next hstep)
    exact ⟨hone.trans hmore, hduties⟩

/-- The mask of the start says that no receive step is waiting (60_exceptions R257). -/
theorem ReceiveInv.rxHold_eq_none {s : State} (h : ReceiveInv s) (hmask : s.rxMask = true) : s.rxHold = none := by
  by_contra hhold
  obtain ⟨_, hwait⟩ := h
  obtain ⟨_, hclear, _⟩ := hwait hhold
  simp [hmask] at hclear

/-- Settles O38: the event is deferred to `t`, where a receive step is enabled and finds its key and its byte. -/
theorem deferredEventIsHandledWithItsSnapshot : Obligations.DeferredEventIsHandledWithItsSnapshot := by
  intro k s es t ⟨_, hrecv, _⟩ hpend hmask hconf hrun hmasked hclear hrst
  obtain ⟨hdef, _, _, _, _, _, hfifo⟩ :=
    eventDeferred_of_masked_run hpend (ReceiveInv.rxHold_eq_none hrecv hmask) hconf hrun hmasked
  have hen : receiveEnabled t = true := by simp [receiveEnabled, hdef.evtPend_eq, hclear]
  rw [← hdef.eventKey_eq]
  exact ⟨hdef.rxData_eq, step_of_run hrst (turn_of_receiveEnabled hfifo hen)⟩

end Sys2Proof.Machine

namespace Sys2Proof.Machine

/-! ### A receive step and the unread bytes (70_reset_and_hazards R295) -/

theorem unread_prefix_of_fifoSide {s t : State} (h : fifoSide t = fifoSide s) : unread s <+: unread t :=
  (unread_eq_of_fifoSide h).symm ▸ List.prefix_rfl

/-- A `put` appends its byte or is refused (40_fifo R130). -/
theorem ringPut_unread_prefix {b : Byte} {s t : State} (hs : FifoInv s) (h : ringPut b s = .next t) :
    unread s <+: unread t := by
  obtain ⟨u, hput, _, hqueue⟩ := ringPut_queue b hs
  cases hput.symm.trans h
  exact ⟨_, hqueue.symm⟩

/-- Only the action's `put` moves the FIFO; the loss pulse and the bookkeeping do not (42_receive R173). -/
theorem receiveByte_unread_prefix {s t : State} (hs : FifoInv s) (h : receiveByte s = .next t) :
    unread s <+: unread t := by
  obtain ⟨u, hput, rfl⟩ := receiveByte_cases h
  have hprefix : unread s <+: unread u :=
    ringPut_unread_prefix (s := emit .rxRd s) (hs.of_fifoSide (fifoSide_emit .rxRd s)) hput
  have hcount : fifoSide (countByte s.pins.rxData (if u.putErr then emit .rxLost u else u)) = fifoSide u := by
    cases u.putErr <;> rfl
  exact hprefix.trans (unread_prefix_of_fifoSide hcount)

theorem execDataWrite_unread_prefix {bf nak : Bool} {s t : State} (hs : FifoInv s)
    (h : execDataWrite bf nak s = .next t) : unread s <+: unread t := by
  obtain ⟨u, hbyte, hend⟩ := andThen_eq_next.1 h
  cases hend
  have hstart : fifoSide (classify .dataWrite (emit .clrOv (emit (.classValid .dataWrite) s))) = fifoSide s := rfl
  calc
    unread s <+: unread u :=
      (unread_prefix_of_fifoSide hstart).trans (receiveByte_unread_prefix (hs.of_fifoSide hstart) hbyte)
    _ <+: unread (releaseAndEnd u) := unread_prefix_of_fifoSide (fifoSide_releaseAndEnd u)

/-- Waiting or fresh, a DataRead step leaves the FIFO alone (42_receive R174). -/
theorem execDataRead_keeps_fifoSide {consumed bf nak : Bool} {s t : State}
    (h : execDataRead consumed bf nak s = .next t) : fifoSide t = fifoSide s := by
  cases hhold : s.rxHold with
  | none =>
    cases (exec_dataRead_fresh consumed bf nak hhold).symm.trans h
    simp
  | some key =>
    cases (exec_dataRead_waiting consumed bf nak hhold).symm.trans h
    simp

/-- Of the bus events only DataWrite touches the FIFO, and it only appends. -/
theorem exec_snapshotKey_unread_prefix {i : Instr} {s t : State} (hfmt : i.format = .snapshotKey) (hs : FifoInv s)
    (h : exec i s = .next t) : unread s <+: unread t := by
  cases i with
  | addressWrite | addressRead | idle =>
    cases h
    exact unread_prefix_of_fifoSide (by simp)
  | dataWrite bf nak => exact execDataWrite_unread_prefix (bf := bf) (nak := nak) hs h
  | dataRead => exact unread_prefix_of_fifoSide (execDataRead_keeps_fifoSide h)
  | _ => cases hfmt

/-- Settles O41: the step is a bus event's, and neither its beginning nor its end moves the FIFO. -/
theorem receivingKeepsUnreadBytes : Obligations.ReceivingKeepsUnreadBytes := by
  intro s t ⟨hfifo, _, _⟩ hrst hstrobe hpend hmask h
  have hen : receiveEnabled s = true := by simp [receiveEnabled, hpend, hmask]
  rw [step_of_run hrst (turn_of_receiveEnabled hstrobe hen)] at h
  obtain ⟨u, hexec, hend⟩ := andThen_eq_next.1 h
  cases hend
  obtain ⟨_, hfmt, _⟩ := decodeKey_sound (eventKey s)
  rw [unread_endStep]
  exact exec_snapshotKey_unread_prefix (s := beginStep s) hfmt hfifo hexec

end Sys2Proof.Machine
